-- ==== Sys2Proof/Word.lean ====
section
/-! DEFINITION. The words of the IN-12: the widths its cells, counters and clock are made of, and the bounded numbers that name
its slots, lanes, groups and zones (spec/00_scope.md, Figure 0-3). -/

namespace Sys2Proof

/-- One byte of a cell or a frame. -/
abbrev Byte := BitVec 8

/-- A 16-bit field: a coordinate, a stroke id, a counter, a tag. -/
abbrev Word16 := BitVec 16

/-- A transducer id, its match value or its mask (R17). -/
abbrev Word24 := BitVec 24

/-- A session time in milliseconds (R11). -/
abbrev Word32 := BitVec 32

/-- A pen slot, 0 to 11. -/
abbrev Slot := Fin 12

/-- A sensor lane, 0 to 3. -/
abbrev Lane := Fin 4

/-- A pen group, 0 to 3. -/
abbrev Group := Fin 4

/-- A zone number, 0 to 15, or 16 for the open area (R60). -/
abbrev ZoneNo := Fin 17

/-- The open area's zone number (R60). -/
def openAreaNo : ZoneNo := 16

end Sys2Proof
end

