-- ==== Sys2Proof/Syntax.lean ====
section
/-! DEFINITION. The syntax of the IN-12's steps: one constructor of `Instr` per row of spec/opcode_table.json, with the row's
operands. The first rows are events at the device's links, lines and timers. The others are the management commands, each with
the host's tag and its operands at the widths of Figure 11-3 of spec/11_cell_and_frame_formats.md (R179). -/

namespace Sys2Proof

/-- The steering of a zone for one group (Figure 4-1; encoding Figure 11-1). -/
inductive Steering where
  /-- OFF: the pen is refused. -/
  | off
  /-- LOCAL: the ink goes to the overlay. -/
  | localInk
  /-- SHARE: the ink goes to the share path. -/
  | shareInk
  /-- BOTH: the ink goes to the overlay and to the share path. -/
  | both
  deriving DecidableEq, Repr

/-- The four steering values of a zone, one per group (the steering byte of section 11.1). -/
structure SteeringSet where
  group0 : Steering
  group1 : Steering
  group2 : Steering
  group3 : Steering
  deriving DecidableEq, Repr

/-- What a zone record and an open-area record have in common (Figure 4-1, R60): steering, erase-allowed, protected, width cap. -/
structure ZoneRules where
  steering : SteeringSet
  eraseAllowed : Bool
  guarded : Bool
  widthCap : Byte
  deriving DecidableEq, Repr

/-- The nine fields of a pen profile at their encoded widths (Figure 2-1, the profile block of section 11.2). The same record is
the operand as received, the stored profile and a slot's parameter copy; a stored one has passed the clamps of R19. -/
structure Profile where
  down : BitVec 12
  up : BitVec 12
  settleCount : BitVec 3
  liftHold : BitVec 6
  smoothing : BitVec 4
  minStep : Byte
  curve : BitVec 2
  eraserWidth : Byte
  buttonErase : Bool
  deriving DecidableEq, Repr

/-- The attribute byte as received: role 3 is a value the two bits hold and commands refuse (Figure 11-1). -/
structure AttributeBits where
  role : BitVec 2
  group : BitVec 2
  colour : BitVec 4
  deriving DecidableEq, Repr

/-- The nine knots w0 to w8 of a width curve (R20). -/
abbrev Knots := Vector Byte 9

/-- An ingress cell: 16 bytes, byte 0 the first on the link (Figure 11-2). -/
abbrev Cell := Vector Byte 16

/-- One end of a pen. -/
inductive PenEnd where
  | tip
  | eraser
  deriving DecidableEq, Repr

/-- A SAMPLE cell's fields behind the lane and the sequence number (R5). -/
structure SampleFields where
  transducer : Word24
  penEnd : PenEnd
  button : Bool
  x : Word16
  y : Word16
  pressure : BitVec 12
  deriving DecidableEq, Repr

/-- A PROXIMITY cell's event (R5). -/
inductive ProximityEvent where
  | enter
  | leave
  deriving DecidableEq, Repr

/-- A command as the Cell Receiver hands it on (R6): its code, its tag, and bytes 5 to 14 of its cell, which are read as operands
only when the command is taken (R179). -/
structure Command where
  code : Byte
  tag : Word16
  operands : Vector Byte 10
  deriving DecidableEq, Repr

/-- What the checks of Figure 1-1 make of an arriving cell. -/
inductive CellClass where
  /-- A SAMPLE cell that passed its CRC-8 and kind checks. -/
  | sample (lane : Lane) (sequence : BitVec 4) (fields : SampleFields)
  /-- A PROXIMITY cell that passed its CRC-8, kind and event checks. -/
  | proximity (lane : Lane) (sequence : BitVec 4) (transducer : Word24) (event : ProximityEvent)
  /-- A COMMAND cell that passed its checks. -/
  | command (c : Command)
  /-- A cell that failed its CRC-8 check or is of unknown kind, and the lane its lane field names (R4, R5). -/
  | invalid (lane : Lane)
  deriving DecidableEq, Repr

/-- One step of the IN-12: the rows of spec/opcode_table.json, in its order. -/
inductive Instr where
  /-- HARD_RESET: the release of RESET; `linkValid` is the level of the link-valid line at the release (R1). -/
  | hardReset (linkValid : Bool)
  | linkValidFalls
  | linkValidRises
  | millisecondTick
  /-- SAMPLE, PROXIMITY, COMMAND_CELL, INVALID_CELL: the arrival of an ingress cell, given by its 16 bytes. -/
  | sample (cell : Cell)
  | proximity (cell : Cell)
  | commandCell (cell : Cell)
  | invalidCell (cell : Cell)
  | presenceExpiry (slot : Slot)
  | liftHoldExpiry (slot : Slot)
  | pacerExpiry
  | noticePulseEnd
  /-- OVERLAY_TX_BEGIN: the overlay egress looks for a cell to begin; `ready` is the overlay ready line's level there (R128). -/
  | overlayTxBegin (ready : Bool)
  | overlayTxComplete
  /-- SHARE_EGRESS_BEGIN: the egress arbiter makes its choice; `ready` is the share ready line's level there (R148). -/
  | shareEgressBegin (ready : Bool)
  | replyTxComplete
  | frameTxComplete
  | rangeReadNextItem
  | unknownCommand (code : Byte) (tag : Word16)
  | readStatus (tag : Word16)
  | readCounters (tag : Word16) (group : BitVec 3) (clear : Bool)
  | clearCounters (tag : Word16)
  | restart (tag : Word16)
  | readTime (tag : Word16)
  | setTime (tag : Word16) (value : Word32)
  | writeAdmission (tag : Word16) (index : BitVec 4) (enable : Bool) (matchValue mask : Word24) (attr : AttributeBits)
      (profile : BitVec 2)
  | readAdmission (tag : Word16) (first last : Byte)
  | writeProfile (tag : Word16) (index : BitVec 2) (block : Profile)
  | readProfile (tag : Word16) (first last : Byte)
  | writeCurve (tag : Word16) (index : BitVec 2) (knots : Knots)
  | readCurve (tag : Word16) (first last : Byte)
  | readSlot (tag : Word16) (first last part : Byte)
  | writeSlotParameters (tag : Word16) (slot : BitVec 4) (block : Profile) (attr : AttributeBits)
  | setOffset (tag : Word16) (slot : BitVec 4) (x y : Word16)
  | setSlotEnable (tag : Word16) (slot : BitVec 4) (enable : Bool)
  | unbind (tag : Word16) (slot : BitVec 4)
  | forceLeave (tag : Word16) (slot : BitVec 4)
  | captureOffset (tag : Word16) (slot : BitVec 4) (x y : Word16)
  | cancelCapture (tag : Word16) (slot : BitVec 4)
  | writeSettings (tag : Word16) (presence : Byte) (guest : Bool)
  | readSettings (tag : Word16)
  | writeZoneRect (tag : Word16) (zone : BitVec 5) (xMin xMax yMin yMax : Word16)
  | writeZoneAttributes (tag : Word16) (zone : BitVec 5) (enable : Bool) (rules : ZoneRules)
  | writeOpenArea (tag : Word16) (rules : ZoneRules)
  | readZone (tag : Word16) (selector : BitVec 2) (first last : Byte)
  | apply (tag : Word16)
  | retireNow (tag : Word16)
  | lockLayout (tag : Word16)
  | readLayout (tag : Word16)
  | readStroke (tag : Word16) (first last part : Byte)
  | writeIdentity (tag : Word16) (classroom : Word16) (board : Byte)
  | shareEnable (tag : Word16)
  | shareDisable (tag : Word16)
  | setPacing (tag : Word16) (period : Byte) (fine : BitVec 4)
  | flush (tag : Word16)
  | readShare (tag : Word16)
  | fetch (tag : Word16)
  | ack (tag : Word16) (kind : BitVec 4) (subject : BitVec 5)
  | setLevel (tag : Word16) (kind : BitVec 4) (level : BitVec 3)
  | setLineThreshold (tag : Word16) (threshold : BitVec 3)
  deriving DecidableEq, Repr

end Sys2Proof
end

