-- ==== Sys2Proof/Decode.lean ====
section
/-! DEFINITION. What the IN-12 reads from the bits that reach it: the CRC-8 and CRC-16 (R180), the checks and fields of an
ingress cell (R4, R5, R179, Figure 11-2), the operands of a command (Figure 11-3), and beside each reading the writing that it
undoes. Last, `decodeTableWord`, over the rows of the opcode table that give bits: none does. -/

namespace Sys2Proof

/-! ## Fields and bytes

A field of two or more bytes is sent most significant byte first (opening of spec/11_cell_and_frame_formats.md). -/

/-- Two bytes as a 16-bit field. -/
def be16 (a b : Byte) : Word16 := a ++ b

/-- Three bytes as a 24-bit field. -/
def be24 (a b c : Byte) : Word24 := a ++ b ++ c

/-- Four bytes as a 32-bit field. -/
def be32 (a b c d : Byte) : Word32 := a ++ b ++ c ++ d

/-- Byte `k` of a word, byte 0 the least significant. -/
def byteOf {w : Nat} (v : BitVec w) (k : Nat) : Byte := v.extractLsb' (8 * k) 8

/-- The two bytes of a 16-bit field, in link order. -/
def bytes16 (v : Word16) : List Byte := [byteOf v 1, byteOf v 0]

/-- The three bytes of a 24-bit field, in link order. -/
def bytes24 (v : Word24) : List Byte := [byteOf v 2, byteOf v 1, byteOf v 0]

/-- The four bytes of a 32-bit field, in link order. -/
def bytes32 (v : Word32) : List Byte := [byteOf v 3, byteOf v 2, byteOf v 1, byteOf v 0]

/-- Bits `lo` to `lo + n - 1` of a byte. -/
def field (b : Byte) (lo n : Nat) : BitVec n := b.extractLsb' lo n

/-- One bit of a byte, as a switch: 1 is on, set or yes (Figure 11-1). -/
def flagAt (b : Byte) (k : Nat) : Bool := b.getLsbD k

/-- A number in a byte, as an unsigned value in the width of the field. -/
def byteNat (n : Nat) : Byte := BitVec.ofNat 8 n

/-- A switch as a byte: 0 off, clear or no; 1 on, set or yes (Figure 11-1). -/
def byteBool (b : Bool) : Byte := if b then 1 else 0

/-- A two-bit number as an index 0 to 3. -/
def index4 (b : BitVec 2) : Fin 4 := ⟨b.toNat, by have := b.isLt; omega⟩

/-! ## Check codes (R180) -/

/-- One shift of the CRC-8 register: polynomial x^8+x^2+x+1. -/
def crc8Shift (r : Byte) : Byte := if r.msb then (r <<< 1) ^^^ 0x07#8 else r <<< 1

/-- One byte combined into the CRC-8 register, and its eight shifts. -/
def crc8Step (r b : Byte) : Byte := Nat.iterate crc8Shift 8 (r ^^^ b)

/-- The CRC-8 of a run of bytes: initial value 00H, no final inversion. -/
def crc8 (bytes : List Byte) : Byte := bytes.foldl crc8Step 0#8

/-- One shift of the CRC-16 register: polynomial 1021H. -/
def crc16Shift (r : Word16) : Word16 := if r.msb then (r <<< 1) ^^^ 0x1021#16 else r <<< 1

/-- One byte combined into the high bits of the CRC-16 register, and its eight shifts. -/
def crc16Step (r : Word16) (b : Byte) : Word16 := Nat.iterate crc16Shift 8 (r ^^^ (b ++ 0#8))

/-- The CRC-16 of a run of bytes: initial value FFFFH, no inversion. -/
def crc16 (bytes : List Byte) : Word16 := bytes.foldl crc16Step 0xFFFF#16

/-! ## Ingress cells (Figure 11-2) -/

/-- Byte 15 of a cell that carries bytes 0 to 14 intact (R4). -/
def Cell.check (cell : Cell) : Byte := crc8 (cell.toList.take 15)

/-- The lane field, bits 7-6 of byte 1, read from the cell as received. -/
def Cell.lane (cell : Cell) : Lane := index4 (field cell[1] 6 2)

/-- The sequence number, bits 3-0 of byte 1. -/
def Cell.sequence (cell : Cell) : BitVec 4 := field cell[1] 0 4

/-- The transducer id, bytes 2 to 4. -/
def Cell.transducer (cell : Cell) : Word24 := be24 cell[2] cell[3] cell[4]

/-- Bit 0 of byte 5: 0 TIP, 1 ERASER (Figure 11-1). -/
def penEndOf (bit : Bool) : PenEnd := if bit then .eraser else .tip

/-- The fields of a SAMPLE cell. -/
def Cell.sampleFields (cell : Cell) : SampleFields :=
  { transducer := Cell.transducer cell, penEnd := penEndOf (flagAt cell[5] 0), button := flagAt cell[5] 1, x := be16 cell[6] cell[7],
    y := be16 cell[8] cell[9], pressure := (be16 cell[10] cell[11]).extractLsb' 0 12 }

/-- The command that a COMMAND cell carries: code, tag and operand bytes 5 to 14. -/
def Cell.command (cell : Cell) : Command :=
  { code := cell[2], tag := be16 cell[3] cell[4],
    operands := #v[cell[5], cell[6], cell[7], cell[8], cell[9], cell[10], cell[11], cell[12], cell[13], cell[14]] }

/-- The event of a PROXIMITY cell: 01H ENTER, 02H LEAVE; any other value makes the cell one of unknown kind (R5, R179). -/
def proximityEventOf (b : Byte) : Option ProximityEvent :=
  if b = 0x01#8 then some .enter else if b = 0x02#8 then some .leave else none

/-- The first two checks of Figure 1-1, in order: the CRC-8 (R4), then the kind byte and a PROXIMITY cell's event (R5). -/
def classify (cell : Cell) : CellClass :=
  if Cell.check cell ≠ cell[15] then .invalid (Cell.lane cell)
  else if cell[0] = 0xD1#8 then .sample (Cell.lane cell) (Cell.sequence cell) (Cell.sampleFields cell)
  else if cell[0] = 0xD2#8 then
    match proximityEventOf cell[5] with
    | some e => .proximity (Cell.lane cell) (Cell.sequence cell) (Cell.transducer cell) e
    | none => .invalid (Cell.lane cell)
  else if cell[0] = 0xD7#8 then .command (Cell.command cell)
  else .invalid (Cell.lane cell)

/-- Fifteen bytes closed with their CRC-8, as the hub sends a cell. -/
def sealCell (b : Vector Byte 15) : Cell :=
  #v[b[0], b[1], b[2], b[3], b[4], b[5], b[6], b[7], b[8], b[9], b[10], b[11], b[12], b[13], b[14], crc8 b.toList]

/-- Byte 1 of a SAMPLE or PROXIMITY cell, its reserved bits 0. -/
def laneByte (lane : Lane) (sequence : BitVec 4) : Byte := BitVec.ofNat 2 lane.val ++ 0#2 ++ sequence

/-- The SAMPLE cell with these fields, reserved bits and bytes 0. -/
def encodeSample (lane : Lane) (sequence : BitVec 4) (f : SampleFields) : Cell :=
  let p : Word16 := 0#4 ++ f.pressure
  sealCell #v[0xD1, laneByte lane sequence, byteOf f.transducer 2, byteOf f.transducer 1, byteOf f.transducer 0,
    0#6 ++ BitVec.ofBool f.button ++ BitVec.ofBool (f.penEnd = .eraser), byteOf f.x 1, byteOf f.x 0, byteOf f.y 1, byteOf f.y 0,
    byteOf p 1, byteOf p 0, 0, 0, 0]

/-- The PROXIMITY cell with these fields, reserved bits and bytes 0. -/
def encodeProximity (lane : Lane) (sequence : BitVec 4) (t : Word24) (e : ProximityEvent) : Cell :=
  sealCell #v[0xD2, laneByte lane sequence, byteOf t 2, byteOf t 1, byteOf t 0,
    (match e with | .enter => 0x01 | .leave => 0x02), 0, 0, 0, 0, 0, 0, 0, 0, 0]

/-- The COMMAND cell that carries a command, its ignored byte 1 at 0. -/
def encodeCommandCell (c : Command) : Cell :=
  let o := c.operands
  sealCell #v[0xD7, 0, c.code, byteOf c.tag 1, byteOf c.tag 0, o[0], o[1], o[2], o[3], o[4], o[5], o[6], o[7], o[8], o[9]]

/-! ## Command operands (Figure 11-3)

Operand byte `k` of Figure 11-3 is element `k - 5` of `Command.operands`. -/

/-- Steering as encoded: 0 OFF, 1 LOCAL, 2 SHARE, 3 BOTH (Figure 11-1). -/
def steeringOf (b : BitVec 2) : Steering :=
  match b.toNat with
  | 0 => .off
  | 1 => .localInk
  | 2 => .shareInk
  | _ => .both

/-- The encoding of a steering value (Figure 11-1). -/
def steeringBits : Steering → BitVec 2
  | .off => 0
  | .localInk => 1
  | .shareInk => 2
  | .both => 3

/-- The steering byte (section 11.1). -/
def steeringSetOf (b : Byte) : SteeringSet :=
  ⟨steeringOf (field b 0 2), steeringOf (field b 2 2), steeringOf (field b 4 2), steeringOf (field b 6 2)⟩

/-- The steering byte that carries four steering values. -/
def steeringByte (s : SteeringSet) : Byte :=
  steeringBits s.group3 ++ steeringBits s.group2 ++ steeringBits s.group1 ++ steeringBits s.group0

/-- The attribute byte (section 11.1). -/
def attributesOf (b : Byte) : AttributeBits := ⟨field b 0 2, field b 2 2, field b 4 4⟩

/-- The attribute byte that carries a role, a group and a colour. -/
def attributeByte (a : AttributeBits) : Byte := a.colour ++ a.group ++ a.role

/-- Steering byte, rule byte and width cap, as they follow one another in Figure 11-3. -/
def zoneRulesOf (steering rule cap : Byte) : ZoneRules := ⟨steeringSetOf steering, flagAt rule 0, flagAt rule 1, cap⟩

/-- The rule byte (section 11.1). -/
def ruleByte (r : ZoneRules) : Byte := 0#6 ++ BitVec.ofBool r.guarded ++ BitVec.ofBool r.eraseAllowed

/-- The profile block's eight bytes as the nine fields (section 11.2). -/
def profileOf (b0 b1 b2 b3 b4 b5 b6 b7 : Byte) : Profile :=
  { down := (be16 b0 b1).extractLsb' 0 12, up := (be16 b2 b3).extractLsb' 0 12, liftHold := field b4 0 6, curve := field b4 6 2,
    settleCount := field b5 0 3, smoothing := field b5 3 4, buttonErase := flagAt b5 7, minStep := b6, eraserWidth := b7 }

/-- The profile block that carries nine fields, reserved bits 0. -/
def profileBlock (p : Profile) : Vector Byte 8 :=
  let d : Word16 := 0#4 ++ p.down
  let u : Word16 := 0#4 ++ p.up
  #v[byteOf d 1, byteOf d 0, byteOf u 1, byteOf u 0, p.curve ++ p.liftHold,
    BitVec.ofBool p.buttonErase ++ p.smoothing ++ p.settleCount, p.minStep, p.eraserWidth]

/-- The step that a taken command asks for: its code read against Figure 11-3, then its operands, each at the width of its field.
A code that names no command gives UNKNOWN_COMMAND, its operands unread (R159, R179). -/
def decodeCommand (c : Command) : Instr :=
  let t := c.tag
  let o := c.operands
  match c.code.toNat with
  | 0x10 => .readStatus t
  | 0x11 => .readCounters t (field o[0] 0 3) (flagAt o[0] 7)
  | 0x12 => .clearCounters t
  | 0x13 => .restart t
  | 0x14 => .readTime t
  | 0x15 => .setTime t (be32 o[0] o[1] o[2] o[3])
  | 0x20 => .writeAdmission t (field o[0] 0 4) (flagAt o[0] 7) (be24 o[1] o[2] o[3]) (be24 o[4] o[5] o[6]) (attributesOf o[7])
      (field o[8] 0 2)
  | 0x21 => .readAdmission t o[0] o[1]
  | 0x22 => .writeProfile t (field o[0] 0 2) (profileOf o[1] o[2] o[3] o[4] o[5] o[6] o[7] o[8])
  | 0x23 => .readProfile t o[0] o[1]
  | 0x24 => .writeCurve t (field o[0] 0 2) #v[o[1], o[2], o[3], o[4], o[5], o[6], o[7], o[8], o[9]]
  | 0x25 => .readCurve t o[0] o[1]
  | 0x26 => .readSlot t o[0] o[1] o[2]
  | 0x27 => .writeSlotParameters t (field o[0] 0 4) (profileOf o[1] o[2] o[3] o[4] o[5] o[6] o[7] o[8]) (attributesOf o[9])
  | 0x28 => .setOffset t (field o[0] 0 4) (be16 o[1] o[2]) (be16 o[3] o[4])
  | 0x29 => .setSlotEnable t (field o[0] 0 4) (flagAt o[1] 0)
  | 0x2A => .unbind t (field o[0] 0 4)
  | 0x2B => .forceLeave t (field o[0] 0 4)
  | 0x2C => .captureOffset t (field o[0] 0 4) (be16 o[1] o[2]) (be16 o[3] o[4])
  | 0x2D => .cancelCapture t (field o[0] 0 4)
  | 0x2E => .writeSettings t o[0] (flagAt o[1] 0)
  | 0x2F => .readSettings t
  | 0x30 => .writeZoneRect t (field o[0] 0 5) (be16 o[1] o[2]) (be16 o[3] o[4]) (be16 o[5] o[6]) (be16 o[7] o[8])
  | 0x31 => .writeZoneAttributes t (field o[0] 0 5) (flagAt o[0] 7) (zoneRulesOf o[1] o[2] o[3])
  | 0x32 => .writeOpenArea t (zoneRulesOf o[0] o[1] o[2])
  | 0x33 => .readZone t (field o[0] 0 2) o[1] o[2]
  | 0x34 => .apply t
  | 0x35 => .retireNow t
  | 0x36 => .lockLayout t
  | 0x37 => .readLayout t
  | 0x40 => .readStroke t o[0] o[1] o[2]
  | 0x50 => .writeIdentity t (be16 o[0] o[1]) o[2]
  | 0x51 => .shareEnable t
  | 0x52 => .shareDisable t
  | 0x53 => .setPacing t o[0] (field o[1] 0 4)
  | 0x54 => .flush t
  | 0x55 => .readShare t
  | 0x60 => .fetch t
  | 0x61 => .ack t (field o[0] 0 4) (field o[1] 0 5)
  | 0x62 => .setLevel t (field o[0] 0 4) (field o[1] 0 3)
  | 0x63 => .setLineThreshold t (field o[0] 0 3)
  | _ => .unknownCommand c.code t

/-- Operand bytes from byte 5 on, the rest 0: the bytes a row does not name are ignored (R179). -/
def operandBytes (l : List Byte) : Vector Byte 10 :=
  Vector.ofFn fun i => l.getD i.val 0

/-- A narrow field alone in its byte. -/
def lowByte {w : Nat} (b : BitVec w) : Byte := b.setWidth 8

/-- An index field with a switch in bit 7. -/
def indexWithSwitch {w : Nat} (b : BitVec w) (on : Bool) : Byte := lowByte b ||| (if on then 0x80#8 else 0#8)

/-- The command a management step is, in the code, tag and operand bytes of Figure 11-3; the steps that are not commands of the
host have none. -/
def encodeCommand : Instr → Option Command
  | .hardReset _ => none
  | .linkValidFalls => none
  | .linkValidRises => none
  | .millisecondTick => none
  | .sample _ => none
  | .proximity _ => none
  | .commandCell _ => none
  | .invalidCell _ => none
  | .presenceExpiry _ => none
  | .liftHoldExpiry _ => none
  | .pacerExpiry => none
  | .noticePulseEnd => none
  | .overlayTxBegin _ => none
  | .overlayTxComplete => none
  | .shareEgressBegin _ => none
  | .replyTxComplete => none
  | .frameTxComplete => none
  | .rangeReadNextItem => none
  | .unknownCommand code t => some ⟨code, t, operandBytes []⟩
  | .readStatus t => some ⟨0x10, t, operandBytes []⟩
  | .readCounters t g clear => some ⟨0x11, t, operandBytes [indexWithSwitch g clear]⟩
  | .clearCounters t => some ⟨0x12, t, operandBytes []⟩
  | .restart t => some ⟨0x13, t, operandBytes []⟩
  | .readTime t => some ⟨0x14, t, operandBytes []⟩
  | .setTime t v => some ⟨0x15, t, operandBytes (bytes32 v)⟩
  | .writeAdmission t i on m k a p =>
      some ⟨0x20, t, operandBytes ([indexWithSwitch i on] ++ bytes24 m ++ bytes24 k ++ [attributeByte a, lowByte p])⟩
  | .readAdmission t a b => some ⟨0x21, t, operandBytes [a, b]⟩
  | .writeProfile t i p => some ⟨0x22, t, operandBytes ([lowByte i] ++ (profileBlock p).toList)⟩
  | .readProfile t a b => some ⟨0x23, t, operandBytes [a, b]⟩
  | .writeCurve t i k => some ⟨0x24, t, operandBytes ([lowByte i] ++ k.toList)⟩
  | .readCurve t a b => some ⟨0x25, t, operandBytes [a, b]⟩
  | .readSlot t a b p => some ⟨0x26, t, operandBytes [a, b, p]⟩
  | .writeSlotParameters t i p a => some ⟨0x27, t, operandBytes ([lowByte i] ++ (profileBlock p).toList ++ [attributeByte a])⟩
  | .setOffset t i x y => some ⟨0x28, t, operandBytes ([lowByte i] ++ bytes16 x ++ bytes16 y)⟩
  | .setSlotEnable t i on => some ⟨0x29, t, operandBytes [lowByte i, byteBool on]⟩
  | .unbind t i => some ⟨0x2A, t, operandBytes [lowByte i]⟩
  | .forceLeave t i => some ⟨0x2B, t, operandBytes [lowByte i]⟩
  | .captureOffset t i x y => some ⟨0x2C, t, operandBytes ([lowByte i] ++ bytes16 x ++ bytes16 y)⟩
  | .cancelCapture t i => some ⟨0x2D, t, operandBytes [lowByte i]⟩
  | .writeSettings t n g => some ⟨0x2E, t, operandBytes [n, byteBool g]⟩
  | .readSettings t => some ⟨0x2F, t, operandBytes []⟩
  | .writeZoneRect t z a b c d =>
      some ⟨0x30, t, operandBytes ([lowByte z] ++ bytes16 a ++ bytes16 b ++ bytes16 c ++ bytes16 d)⟩
  | .writeZoneAttributes t z on r =>
      some ⟨0x31, t, operandBytes [indexWithSwitch z on, steeringByte r.steering, ruleByte r, r.widthCap]⟩
  | .writeOpenArea t r => some ⟨0x32, t, operandBytes [steeringByte r.steering, ruleByte r, r.widthCap]⟩
  | .readZone t s a b => some ⟨0x33, t, operandBytes [lowByte s, a, b]⟩
  | .apply t => some ⟨0x34, t, operandBytes []⟩
  | .retireNow t => some ⟨0x35, t, operandBytes []⟩
  | .lockLayout t => some ⟨0x36, t, operandBytes []⟩
  | .readLayout t => some ⟨0x37, t, operandBytes []⟩
  | .readStroke t a b p => some ⟨0x40, t, operandBytes [a, b, p]⟩
  | .writeIdentity t c b => some ⟨0x50, t, operandBytes (bytes16 c ++ [b])⟩
  | .shareEnable t => some ⟨0x51, t, operandBytes []⟩
  | .shareDisable t => some ⟨0x52, t, operandBytes []⟩
  | .setPacing t p f => some ⟨0x53, t, operandBytes [p, lowByte f]⟩
  | .flush t => some ⟨0x54, t, operandBytes []⟩
  | .readShare t => some ⟨0x55, t, operandBytes []⟩
  | .fetch t => some ⟨0x60, t, operandBytes []⟩
  | .ack t k s => some ⟨0x61, t, operandBytes [lowByte k, lowByte s]⟩
  | .setLevel t k l => some ⟨0x62, t, operandBytes [lowByte k, lowByte l]⟩
  | .setLineThreshold t l => some ⟨0x63, t, operandBytes [lowByte l]⟩

/-- A code that names a command of Figure 9-5. -/
def knownCode (code : Byte) : Bool :=
  match decodeCommand ⟨code, 0, operandBytes []⟩ with
  | .unknownCommand _ _ => false
  | _ => true

/-- The step an opcode-table word spells. No row of spec/opcode_table.json gives bits, so no word spells one. -/
def decodeTableWord (_nbits _w : Nat) : Option Instr := none

end Sys2Proof
end

