-- ==== Sys2Proof/Config.lean ====
section
/-! DEFINITION. The fixed numbers of the IN-12 (Figure 0-3) and the values its tables hold after hard reset (Figures 2-1, 2-4 and
4-4). The spec leaves no value open, so there is no free value here. -/

namespace Sys2Proof.Config

/-- Overlay queue places (R120). -/
def overlayCapacity : Nat := 48

/-- Share queue places (R120). -/
def shareCapacity : Nat := 64

/-- Records of one share frame (R138). -/
def frameRecords : Nat := 6

/-- Reply queue places (R147). -/
def replyCapacity : Nat := 4

/-- Command queue places (R153). -/
def commandCapacity : Nat := 8

/-- Notice queue places (R169). -/
def noticeCapacity : Nat := 16

/-- The profile defaults of Figure 2-1. -/
def defaultProfile : Profile :=
  { down := 300, up := 200, settleCount := 2, liftHold := 12, smoothing := 2, minStep := 8, curve := 0, eraserWidth := 120,
    buttonErase := true }

/-- The knots of every width curve after hard reset (R20). -/
def defaultKnots : Knots := #v[10, 12, 14, 16, 18, 20, 22, 24, 26]

/-- The rules of a zone after hard reset (Figure 4-4). -/
def resetZoneRules : ZoneRules := ⟨⟨.off, .off, .off, .off⟩, false, false, 0⟩

/-- The open-area record after hard reset (Figure 4-4). -/
def resetOpenArea : ZoneRules := ⟨⟨.localInk, .localInk, .localInk, .localInk⟩, true, false, 0⟩

end Sys2Proof.Config
end

