-- ==== Sys2Proof/Machine/State.lean ====
section
/-! DEFINITION. Everything the spec gives the IN-12 to hold, block by block (Figure 0-1), as plain data, with the value of each
piece after hard reset. `Device` is the part itself. `State` adds the queue of the steps that are to be taken, which is the
model's own. -/

namespace Sys2Proof.Machine

/-! ## Enumerated values (Figure 11-1) -/

/-- The role of a pen. -/
inductive Role where
  | teacher
  | student
  | guest
  deriving DecidableEq, Repr

/-- The ingress link's state (R1). -/
inductive LinkState where
  | down
  | up
  deriving DecidableEq, Repr

/-- A slot's binding (R21). -/
inductive Binding where
  | free
  | bound
  deriving DecidableEq, Repr

/-- The contact state of a slot (Figure 3-1). -/
inductive ContactState where
  | free
  | away
  | hover
  | settling
  | inking
  | holding
  | blocked
  | capture
  deriving DecidableEq, Repr

/-- The capture wait, meaningful in CAPTURE only (R41). -/
inductive CaptureWait where
  | waiting
  | ended
  deriving DecidableEq, Repr

/-- The names of the zone banks (R66). -/
inductive BankName where
  | a
  | b
  deriving DecidableEq, Repr

/-- The state of the bank exchange (Figure 4-2). -/
inductive ApplyState where
  | idle
  | retiring
  deriving DecidableEq, Repr

/-- The reasons of a CLOSE record (Figure 5-7), SHARE_OFF of a synthetic one (R127), and NONE of an empty summary (Figure 5-8). -/
inductive CloseReason where
  | noReason
  | lift
  | lost
  | zoneExit
  | endChange
  | forced
  | retired
  | shareOff
  deriving DecidableEq, Repr

/-- The share state (R132). -/
inductive ShareState where
  | disabled
  | enabled
  | draining
  deriving DecidableEq, Repr

/-- The result of a reply (Figure 9-1). -/
inductive Result where
  | done
  | unknown
  | range
  | locked
  | busy
  | state
  | written
  deriving DecidableEq, Repr

/-- The notice kinds, in the order of their numbers (Figure 10-1). -/
inductive NoticeKind where
  | cellError
  | laneGap
  | unknownPen
  | penTableFull
  | penBound
  | penEvicted
  | offsetCaptured
  | protectedBlock
  | applyDone
  | overlayStall
  | shareOverflow
  | shareDrained
  | commandOverrun
  deriving DecidableEq, Repr

/-- The state of the notice line (R175, R176). -/
inductive LineState where
  | released
  | asserted
  | pulsing
  deriving DecidableEq, Repr

/-! ## Cell Receiver -/

/-- What the Cell Receiver holds for one lane: the expected sequence value, `none` for NONE (R8), and the two counters (R10). -/
structure LaneState where
  expected : Option (BitVec 4)
  badCells : Word16
  gaps : Word16
  deriving DecidableEq, Repr

/-- The Cell Receiver (Chapter 1): the link state, the ingress ready line (IG_READY) and the four lanes. -/
structure CellReceiver where
  link : LinkState
  ingressReady : Bool
  lanes : Vector LaneState 4
  deriving DecidableEq, Repr

/-! ## Pen Table -/

/-- An admission entry (R17). -/
structure AdmissionEntry where
  enable : Bool
  matchValue : Word24
  mask : Word24
  role : Role
  group : Group
  colour : BitVec 4
  profile : BitVec 2
  deriving DecidableEq, Repr

/-- A pen slot's record (Figure 2-2), less the contact fields, which the Contact Unit holds. -/
structure PenSlot where
  enabled : Bool
  binding : Binding
  transducer : Word24
  lane : Lane
  role : Role
  group : Group
  colour : BitVec 4
  params : Profile
  offsetX : Int
  offsetY : Int
  captureArmed : Bool
  targetX : Word16
  targetY : Word16
  lastSeen : Word32
  deriving DecidableEq, Repr

/-- The Pen Table (Chapter 2): tables, slots, global settings and the PEN counters (R39). -/
structure PenTable where
  admission : Vector AdmissionEntry 8
  profiles : Vector Profile 4
  curves : Vector Knots 4
  slots : Vector PenSlot 12
  presenceCount : Byte
  guestAdmission : Bool
  binds : Word16
  evictions : Word16
  misses : Word16
  tableFull : Word16
  deriving DecidableEq, Repr

/-! ## Contact Unit -/

/-- What the Contact Unit holds for one slot (R41). A timer is `none` while it is stopped, and otherwise the ticks it has left:
0 is a timer whose T-th tick has come and whose expiry has not been taken yet (R12). -/
structure Contact where
  state : ContactState
  settle : Nat
  wait : CaptureWait
  liftTime : Word32
  liftHold : Option Nat
  presence : Option Nat
  shortContacts : Byte
  deriving DecidableEq, Repr

/-! ## Zone Table -/

/-- A zone record (Figure 4-1). -/
structure Zone where
  enable : Bool
  xMin : Word16
  xMax : Word16
  yMin : Word16
  yMax : Word16
  rules : ZoneRules
  deriving DecidableEq, Repr

/-- A zone bank: 16 zone records, the open-area record, 17 blocked counters (R65) and the binding count (R67). -/
structure Bank where
  zones : Vector Zone 16
  openArea : ZoneRules
  blocked : Vector Word16 17
  bindings : Nat
  deriving DecidableEq, Repr

/-- The Zone Table (Chapter 4). -/
structure ZoneTable where
  bankA : Bank
  bankB : Bank
  active : BankName
  generation : Byte
  apply : ApplyState
  locked : Bool
  deriving DecidableEq, Repr

/-! ## Point Filter -/

/-- A filter value: sixteenths of a board unit on each axis (R103). -/
structure FilterValue where
  sx : Nat
  sy : Nat
  deriving DecidableEq, Repr

/-! ## Stroke Assembler -/

/-- A stroke context (Figure 5-2). -/
structure StrokeContext where
  isOpen : Bool
  id : Word16
  role : Role
  group : Group
  colour : BitVec 4
  penEnd : PenEnd
  zone : ZoneNo
  generation : Byte
  steering : Steering
  widthCap : Byte
  openTime : Word32
  sequence : Word16
  count : Word16
  lastX : Word16
  lastY : Word16
  lastWidth : Byte
  laneGap : Bool
  continued : Bool
  deriving DecidableEq, Repr

/-- The flags of a last-stroke summary (Figure 11-1, CLOSE flags). -/
structure SummaryFlags where
  laneGap : Bool
  overlayGap : Bool
  shareTruncated : Bool
  coalesced : Bool
  continued : Bool
  overlaySuppressed : Bool
  deriving DecidableEq, Repr

/-- A last-stroke summary (Figure 5-8). -/
structure Summary where
  id : Word16
  reason : CloseReason
  count : Word16
  penEnd : PenEnd
  zone : ZoneNo
  generation : Byte
  openTime : Word32
  closeTime : Word32
  flags : SummaryFlags
  deriving DecidableEq, Repr

/-- The Stroke Assembler (Chapter 5): contexts, the stroke id allocator's candidate, summaries. -/
structure StrokeAssembler where
  contexts : Vector StrokeContext 12
  candidate : Word16
  summaries : Vector Summary 12
  deriving DecidableEq, Repr

/-! ## Segment Router -/

/-- An OPEN record (Figure 5-3). -/
structure OpenRecord where
  id : Word16
  slot : Slot
  role : Role
  group : Group
  penEnd : PenEnd
  colour : BitVec 4
  zone : ZoneNo
  x : Word16
  y : Word16
  width : Byte
  time : Word16
  continued : Bool
  deriving DecidableEq, Repr

/-- A SEG record (Figure 5-5). -/
structure SegRecord where
  id : Word16
  sequence : Word16
  fromX : Word16
  fromY : Word16
  toX : Word16
  toY : Word16
  width : Byte
  time : Word16
  deriving DecidableEq, Repr

/-- The share form of a SEG record, with its to point alone (R89). -/
structure ShareSeg where
  id : Word16
  sequence : Word16
  toX : Word16
  toY : Word16
  width : Byte
  time : Word16
  deriving DecidableEq, Repr

/-- The flags of a CLOSE record (Figure 11-1). -/
structure CloseFlags where
  laneGap : Bool
  overlayGap : Bool
  shareTruncated : Bool
  coalesced : Bool
  deriving DecidableEq, Repr

/-- A CLOSE record (Figure 5-6). -/
structure CloseRecord where
  id : Word16
  count : Word16
  reason : CloseReason
  flags : CloseFlags
  time : Word16
  deriving DecidableEq, Repr

/-- A record of the overlay queue. -/
inductive InkRecord where
  | openRec (r : OpenRecord)
  | segRec (r : SegRecord)
  | closeRec (r : CloseRecord)
  deriving DecidableEq, Repr

/-- A record of the share queue, in its share form. -/
inductive ShareRecord where
  | openRec (r : OpenRecord)
  | segRec (r : ShareSeg)
  | closeRec (r : CloseRecord)
  deriving DecidableEq, Repr

/-- A delivery record (Figure 7-1). -/
structure Delivery where
  id : Word16
  slot : Slot
  overlayLive : Bool
  overlaySuppressed : Bool
  overlayGap : Bool
  coalesced : Bool
  shareLive : Bool
  shareTruncated : Bool
  overlayReserved : Bool
  shareReserved : Bool
  deriving DecidableEq, Repr

/-- The Segment Router (Chapter 7): delivery records, both queues, the overlay cell in transmission, the ROUTE counters (R130).
The outstanding close reservations of a queue are the delivery records that hold one, so they are counted, not stored twice
(DESIGN CHOICE, log entry 8). -/
structure Router where
  deliveries : List Delivery
  overlayQueue : List InkRecord
  overlayTx : Option (List Byte)
  shareQueue : List ShareRecord
  coalescedSegs : Word16
  droppedSegs : Word16
  suppressedStrokes : Word16
  truncatedStrokes : Word16
  deriving DecidableEq, Repr

/-! ## Share Framer and egress arbiter -/

/-- A share frame as built (R138): its header's fields, its records, and its CRC-16. -/
structure Frame where
  classroom : Word16
  board : Byte
  sequence : Word16
  generation : Byte
  time : Word32
  records : List ShareRecord
  crc : Word16
  deriving DecidableEq, Repr

/-- A frame buffer (R137). -/
inductive FrameBuffer where
  | empty
  | held (f : Frame)
  | sending (f : Frame)
  deriving DecidableEq, Repr

/-- The Share Framer (Chapter 8). `timer` is the pacer's period timer, `none` while the pacer is stopped; `heldOrder` names the
HELD buffers, the one built first in front (R137; the model's own form of their order, DESIGN CHOICE, log entry 8). -/
structure ShareFramer where
  state : ShareState
  written : Bool
  classroom : Word16
  board : Byte
  period : Byte
  fine : BitVec 4
  cycle : BitVec 4
  timer : Option Nat
  pendingFlush : Bool
  nextSequence : Word16
  buffers : Vector FrameBuffer 2
  heldOrder : List (Fin 2)
  framesBuilt : Word16
  recordsFramed : Word16
  deferredFlushes : Word16
  deriving DecidableEq, Repr

/-- The status items of a reply (Figure 9-3). -/
structure ReplyStatus where
  retiring : Bool
  locked : Bool
  written : Bool
  share : ShareState
  overrun : Bool
  deriving DecidableEq, Repr

/-- A reply cell as formed (R156): its 25 payload bytes and its CRC-8 are fixed at the forming (R147, R180). -/
structure ReplyCell where
  tag : Word16
  code : Byte
  result : Result
  status : ReplyStatus
  payload : List Byte
  crc : Byte
  deriving DecidableEq, Repr

/-- The unit in transmission on the share egress, with its bytes (R148). -/
inductive EgressUnit where
  | reply (bytes : List Byte)
  | frame (buffer : Fin 2) (bytes : List Byte)
  deriving DecidableEq, Repr

/-- The egress arbiter: the reply queue, oldest first, and the unit in transmission. -/
structure EgressArbiter where
  replies : List ReplyCell
  inTransmission : Option EgressUnit
  deriving DecidableEq, Repr

/-! ## Management Responder -/

/-- What a range read reads (R157). -/
inductive ReadTarget where
  | admission
  | profile
  | curve
  | slot (part : Byte)
  | zone (staging : Bool)
  | stroke (part : Byte)
  | counters (group : BitVec 3) (clear : Bool)
  deriving DecidableEq, Repr

/-- A range read in hand: the command's tag, what it reads, the next item and the last. -/
structure RangeRead where
  tag : Word16
  target : ReadTarget
  next : Nat
  last : Nat
  deriving DecidableEq, Repr

/-- The Management Responder (Chapter 9): the command queue, oldest first, the command overrun flag, and the responder state,
`none` for IDLE and a range read in hand for READING. -/
structure Responder where
  queue : List Command
  overrun : Bool
  reading : Option RangeRead
  deriving DecidableEq, Repr

/-! ## Notice Queue -/

/-- A notice's subject: a lane, slot or zone number, or `none` (Figure 10-1). -/
abbrev Subject := Option (Fin 17)

/-- A notice entry (R169). -/
structure NoticeEntry where
  kind : NoticeKind
  subject : Subject
  level : BitVec 3
  repeats : Byte
  arrival : Nat
  deriving DecidableEq, Repr

/-- The Notice Queue (Chapter 10): the entries in queue order, a level per kind in the order of their numbers, the line threshold,
the overrun flag, the notice line, and the arrival position that the next entry takes (the model's own form of the
order of arrival, DESIGN CHOICE, log entry 8). -/
structure NoticeQueue where
  entries : List NoticeEntry
  levels : Vector (BitVec 3) 13
  threshold : BitVec 3
  overrun : Bool
  line : LineState
  arrivals : Nat
  deriving DecidableEq, Repr

/-! ## The device and the machine -/

/-- The IN-12: its blocks (Figure 0-1), `clock` being the Timebase's session clock. -/
structure Device where
  receiver : CellReceiver
  clock : Word32
  pens : PenTable
  contacts : Vector Contact 12
  zones : ZoneTable
  filters : Vector FilterValue 12
  strokes : StrokeAssembler
  router : Router
  framer : ShareFramer
  arbiter : EgressArbiter
  responder : Responder
  notices : NoticeQueue
  deriving DecidableEq, Repr

/-- The machine: the device, and the steps that wait to be taken, first in, first out. -/
structure State where
  dev : Device
  pending : List Instr
  deriving DecidableEq, Repr

/-- The IN-12 has no fault: nothing that reaches it stops it. -/
inductive Fault where
  deriving DecidableEq, Repr

/-- Why a step has no meaning. -/
inductive Refusal where
  /-- Raised by an arm of `exec` whose row has no meaning yet (safe: the run stops). No arm raises it. -/
  | notModelled (mnemonic : String)
  deriving DecidableEq, Repr

/-! ## The state after hard reset -/

/-- A lane after hard reset (Figure 1-3). -/
def LaneState.reset : LaneState := ⟨none, 0, 0⟩

/-- An admission entry after hard reset (Figure 2-4). -/
def AdmissionEntry.reset : AdmissionEntry := ⟨false, 0, 0, .student, 0, 0, 0⟩

/-- A pen slot after hard reset (Figure 2-4). -/
def PenSlot.reset : PenSlot :=
  { enabled := true, binding := .free, transducer := 0, lane := 0, role := .student, group := 0, colour := 0,
    params := Config.defaultProfile, offsetX := 0, offsetY := 0, captureArmed := false, targetX := 0, targetY := 0, lastSeen := 0 }

/-- A slot's contact fields after hard reset, at RESTART and when the slot is freed (R41). -/
def Contact.reset : Contact :=
  { state := .free, settle := 0, wait := .ended, liftTime := 0, liftHold := none, presence := none, shortContacts := 0 }

/-- A zone record after hard reset (Figure 4-4). -/
def Zone.reset : Zone := ⟨false, 0, 0, 0, 0, Config.resetZoneRules⟩

/-- A zone bank after hard reset (Figure 4-4). -/
def Bank.reset : Bank := ⟨Vector.replicate 16 Zone.reset, Config.resetOpenArea, Vector.replicate 17 0, 0⟩

/-- The closed values of a stroke context (Figure 5-10). -/
def StrokeContext.closed : StrokeContext :=
  { isOpen := false, id := 0, role := .student, group := 0, colour := 0, penEnd := .tip, zone := 0, generation := 0,
    steering := .off, widthCap := 0, openTime := 0, sequence := 0, count := 0, lastX := 0, lastY := 0, lastWidth := 0,
    laneGap := false, continued := false }

/-- A last-stroke summary after hard reset and RESTART (R100). -/
def Summary.reset : Summary := ⟨0, .noReason, 0, .tip, 0, 0, 0, 0, ⟨false, false, false, false, false, false⟩⟩

/-- The Cell Receiver after hard reset, the link-valid line not yet looked at (Figure 1-3). -/
def CellReceiver.reset : CellReceiver := ⟨.down, false, Vector.replicate 4 LaneState.reset⟩

/-- The Pen Table after hard reset (Figure 2-4). -/
def PenTable.reset : PenTable :=
  { admission := Vector.replicate 8 AdmissionEntry.reset, profiles := Vector.replicate 4 Config.defaultProfile,
    curves := Vector.replicate 4 Config.defaultKnots, slots := Vector.replicate 12 PenSlot.reset, presenceCount := 20,
    guestAdmission := false, binds := 0, evictions := 0, misses := 0, tableFull := 0 }

/-- The Zone Table after hard reset (Figure 4-4). -/
def ZoneTable.reset : ZoneTable := ⟨Bank.reset, Bank.reset, .a, 0, .idle, false⟩

/-- The Stroke Assembler after hard reset (Figure 5-9). -/
def StrokeAssembler.reset : StrokeAssembler :=
  ⟨Vector.replicate 12 StrokeContext.closed, 1, Vector.replicate 12 Summary.reset⟩

/-- The Segment Router after hard reset (Figure 7-3). -/
def Router.reset : Router := ⟨[], [], none, [], 0, 0, 0, 0⟩

/-- The Share Framer after hard reset (Figure 8-2). -/
def ShareFramer.reset : ShareFramer :=
  { state := .disabled, written := false, classroom := 0, board := 0, period := 20, fine := 0, cycle := 0, timer := none,
    pendingFlush := false, nextSequence := 0, buffers := Vector.replicate 2 .empty, heldOrder := [], framesBuilt := 0,
    recordsFramed := 0, deferredFlushes := 0 }

/-- The egress arbiter after hard reset (Figure 8-2). -/
def EgressArbiter.reset : EgressArbiter := ⟨[], none⟩

/-- The Management Responder after hard reset (Figure 9-8). -/
def Responder.reset : Responder := ⟨[], false, none⟩

/-- The Notice Queue after hard reset (Figure 10-2). -/
def NoticeQueue.reset : NoticeQueue := ⟨[], Vector.replicate 13 1, 1, false, .released, 0⟩

/-- Every block at its hard-reset values, the link-valid line not yet looked at. -/
def Device.reset : Device :=
  { receiver := .reset, clock := 0, pens := .reset, contacts := Vector.replicate 12 Contact.reset, zones := .reset,
    filters := Vector.replicate 12 ⟨0, 0⟩, strokes := .reset, router := .reset, framer := .reset, arbiter := .reset,
    responder := .reset, notices := .reset }

/-- The machine right after hard reset, with no step waiting. -/
def State.reset : State := ⟨Device.reset, []⟩

end Sys2Proof.Machine
end

