-- ==== Sys2Proof/Machine/Operands.lean ====
section
/-! DEFINITION. The operands of the commands against their ranges and clamps (R19, R26, R33, R38, R144, R158), the numbers that
name enumerated values (Figure 11-1), and saturating counters. -/

namespace Sys2Proof.Machine

/-! ## Counters -/

/-- A counter increased by one, staying at its greatest value (R10, R41). -/
def satInc {w : Nat} (c : BitVec w) : BitVec w := if c = BitVec.allOnes w then c else c + 1

/-- A 16-bit counter increased by `n`, staying at FFFFH (R151). -/
def satAdd (c : Word16) (n : Nat) : Word16 := if 0xFFFF < c.toNat + n then 0xFFFF else c + BitVec.ofNat 16 n

/-! ## Ranges -/

/-- A slot operand: 12 to 15 name no slot (R26). -/
def slotOf (b : BitVec 4) : Option Slot := if h : b.toNat < 12 then some ⟨b.toNat, h⟩ else none

/-- An admission entry index: above 7 names no entry (R27). -/
def entryOf (b : BitVec 4) : Option (Fin 8) := if h : b.toNat < 8 then some ⟨b.toNat, h⟩ else none

/-- A zone operand of a zone write: 16 to 31 name no rectangle (R75, R76). -/
def rectZoneOf (b : BitVec 5) : Option (Fin 16) := if h : b.toNat < 16 then some ⟨b.toNat, h⟩ else none

/-- A role operand: 3 is refused (Figure 11-1). -/
def roleOf (b : BitVec 2) : Option Role :=
  match b.toNat with
  | 0 => some .teacher
  | 1 => some .student
  | 2 => some .guest
  | _ => none

/-- A notice kind operand: 13 to 15 name no kind (R172, R174). -/
def kindOf (b : BitVec 4) : Option NoticeKind :=
  match b.toNat with
  | 0 => some .cellError
  | 1 => some .laneGap
  | 2 => some .unknownPen
  | 3 => some .penTableFull
  | 4 => some .penBound
  | 5 => some .penEvicted
  | 6 => some .offsetCaptured
  | 7 => some .protectedBlock
  | 8 => some .applyDone
  | 9 => some .overlayStall
  | 10 => some .shareOverflow
  | 11 => some .shareDrained
  | 12 => some .commandOverrun
  | _ => none

/-- A notice subject operand: 0 to 16, or 1FH for none; any other value is out of range (R174). -/
def subjectOf (b : BitVec 5) : Option Subject :=
  if h : b.toNat < 17 then some (some ⟨b.toNat, h⟩) else if b = 0x1F#5 then some none else none

/-- The bounds of a range read: first not above last, last not above the limit (R28). -/
def rangeWithin (first last : Byte) (limit : Nat) : Bool := first ≤ last && last.toNat ≤ limit

/-! ## Clamps -/

/-- A value that 0 is stored as 1 in place of (R19, R20, R38, R144). -/
def atLeastOne {w : Nat} (b : BitVec w) : BitVec w := if b = 0 then 1 else b

/-- The clamps of Figure 2-1, field by field. -/
def clampProfile (p : Profile) : Profile :=
  { p with
    down := atLeastOne p.down
    smoothing := if 4#4 < p.smoothing then 4#4 else p.smoothing
    eraserWidth := atLeastOne p.eraserWidth }

/-- A curve's knots, a knot of 0 stored as 1 (R20). -/
def clampKnots (k : Knots) : Knots := k.map atLeastOne

/-- An offset clamped to -512 to +511 (R33, R56). -/
def clampOffset (v : Int) : Int := if v < -512 then -512 else if 511 < v then 511 else v

/-- The threshold that releases a pen: the lesser of the stored up threshold and the down threshold (R42). -/
def effectiveUp (p : Profile) : BitVec 12 := if p.up < p.down then p.up else p.down

/-! ## Numbers of enumerated values (Figure 11-1) -/

def roleBits : Role → BitVec 2
  | .teacher => 0
  | .student => 1
  | .guest => 2

def penEndNo : PenEnd → Nat
  | .tip => 0
  | .eraser => 1

def contactNo : ContactState → Nat
  | .free => 0
  | .away => 1
  | .hover => 2
  | .settling => 3
  | .inking => 4
  | .holding => 5
  | .blocked => 6
  | .capture => 7

def reasonNo : CloseReason → Nat
  | .noReason => 0
  | .lift => 1
  | .lost => 2
  | .zoneExit => 3
  | .endChange => 4
  | .forced => 5
  | .retired => 6
  | .shareOff => 7

def resultNo : Result → Nat
  | .done => 0
  | .unknown => 1
  | .range => 2
  | .locked => 3
  | .busy => 4
  | .state => 5
  | .written => 6

def shareNo : ShareState → Nat
  | .disabled => 0
  | .enabled => 1
  | .draining => 2

def applyNo : ApplyState → Nat
  | .idle => 0
  | .retiring => 1

def linkNo : LinkState → Nat
  | .down => 0
  | .up => 1

def bindingNo : Binding → Nat
  | .free => 0
  | .bound => 1

def bankNo : BankName → Nat
  | .a => 0
  | .b => 1

def lineNo : LineState → Nat
  | .released => 0
  | .asserted => 1
  | .pulsing => 2

def bufferNo : FrameBuffer → Nat
  | .empty => 0
  | .held _ => 1
  | .sending _ => 2

/-- The number by which commands name a notice kind (Figure 10-1). -/
def kindNo : NoticeKind → Fin 13
  | .cellError => 0
  | .laneGap => 1
  | .unknownPen => 2
  | .penTableFull => 3
  | .penBound => 4
  | .penEvicted => 5
  | .offsetCaptured => 6
  | .protectedBlock => 7
  | .applyDone => 8
  | .overlayStall => 9
  | .shareOverflow => 10
  | .shareDrained => 11
  | .commandOverrun => 12

/-- A notice subject's number, 1FH for none (Figure 11-1). -/
def subjectNo : Subject → Nat
  | some n => n.val
  | none => 0x1F

/-- A slot's number as a notice subject (Figure 10-1). -/
def slotSubject (i : Slot) : Subject := some (i.castLE (by omega))

/-- A lane's number as a notice subject (Figure 10-1). -/
def laneSubject (l : Lane) : Subject := some (l.castLE (by omega))

/-- A zone's number as a notice subject (Figure 10-1). -/
def zoneSubject (z : ZoneNo) : Subject := some z

end Sys2Proof.Machine
end

