-- ==== Sys2Proof/Machine/Flags.lean ====
section
/-! DEFINITION. Every flag byte of the IN-12: the status byte of a reply (Figure 11-5), the flags byte of a CLOSE record and of a
summary (Figure 11-1), and what each flag is computed from. -/

namespace Sys2Proof.Machine

/-- The status items as they stand (Figure 9-3). -/
def Device.status (d : Device) : ReplyStatus :=
  { retiring := d.zones.apply = .retiring, locked := d.zones.locked, written := d.framer.written, share := d.framer.state,
    overrun := d.responder.overrun }

/-- The status byte: apply RETIRING bit 0, layout locked bit 1, identity written bit 2, share state bits 4-3, command overrun
bit 5 (Figure 11-5). -/
def statusByte (s : ReplyStatus) : Byte :=
  0#2 ++ BitVec.ofBool s.overrun ++ BitVec.ofNat 2 (shareNo s.share) ++ BitVec.ofBool s.written ++ BitVec.ofBool s.locked ++
    BitVec.ofBool s.retiring

/-- The flags byte of a CLOSE record: LANE_GAP bit 0, OVERLAY_GAP bit 1, SHARE_TRUNCATED bit 2, COALESCED bit 3. -/
def closeFlagsByte (f : CloseFlags) : Byte :=
  0#4 ++ BitVec.ofBool f.coalesced ++ BitVec.ofBool f.shareTruncated ++ BitVec.ofBool f.overlayGap ++ BitVec.ofBool f.laneGap

/-- The flags byte of a summary: the CLOSE flags, CONTINUED bit 4, OVERLAY_SUPPRESSED bit 5. -/
def summaryFlagsByte (f : SummaryFlags) : Byte :=
  0#2 ++ BitVec.ofBool f.overlaySuppressed ++ BitVec.ofBool f.continued ++ BitVec.ofBool f.coalesced ++
    BitVec.ofBool f.shareTruncated ++ BitVec.ofBool f.overlayGap ++ BitVec.ofBool f.laneGap

/-- The flags of the overlay copy of a CLOSE (R124, step 1). -/
def overlayCloseFlags (laneGap : Bool) (v : Delivery) : CloseFlags := ⟨laneGap, v.overlayGap, false, v.coalesced⟩

/-- The flags of the share copy of a CLOSE (R124, step 2; R127). -/
def shareCloseFlags (laneGap : Bool) (v : Delivery) : CloseFlags := ⟨laneGap, false, v.shareTruncated, false⟩

/-- The flags of a summary: LANE_GAP and CONTINUED from the context, the others from the delivery flags handed back (R99, R124). -/
def summaryFlags (c : StrokeContext) (v : Option Delivery) : SummaryFlags :=
  { laneGap := c.laneGap, continued := c.continued, overlayGap := v.any (·.overlayGap), coalesced := v.any (·.coalesced),
    overlaySuppressed := v.any (·.overlaySuppressed), shareTruncated := v.any (·.shareTruncated) }

end Sys2Proof.Machine
end

