-- ==== Sys2Proof/Machine/Formats.lean ====
section
/-! DEFINITION. The byte layouts of what leaves the IN-12 (section 11.4, R181): overlay cells, share records, share frames and
reply cells, with the CRC-8 of a reply and the CRC-16 of a frame. -/

namespace Sys2Proof.Machine

/-- The attribute byte of a role, a group and a colour (section 11.1). -/
def attributes (role : Role) (group : Group) (colour : BitVec 4) : Byte :=
  attributeByte ⟨roleBits role, BitVec.ofNat 2 group.val, colour⟩

/-- Byte 0 of an OPEN: type 01 and the zone in bits 4-0 (section 11.4). -/
def openTypeByte (z : ZoneNo) : Byte := 0b010#3 ++ BitVec.ofNat 5 z.val

/-- Byte 0 of a SEG: type 10. -/
def segTypeByte : Byte := 0b10000000#8

/-- Byte 0 of a CLOSE: type 11. -/
def closeTypeByte : Byte := 0b11000000#8

/-- The twelve bytes that an OPEN has in both forms (Figure 11-4). -/
def openBytes (r : OpenRecord) : List Byte :=
  [openTypeByte r.zone] ++ bytes16 r.id ++
    [0#2 ++ BitVec.ofBool r.continued ++ BitVec.ofNat 1 (penEndNo r.penEnd) ++ BitVec.ofNat 4 r.slot.val,
      attributes r.role r.group r.colour] ++
    bytes16 r.x ++ bytes16 r.y ++ [r.width] ++ bytes16 r.time

/-- The twelve bytes that a CLOSE has in both forms (Figure 11-4). -/
def closeBytes (r : CloseRecord) : List Byte :=
  [closeTypeByte] ++ bytes16 r.id ++ bytes16 r.count ++ [byteNat (reasonNo r.reason), closeFlagsByte r.flags] ++ bytes16 r.time ++
    [0, 0, 0]

/-- The sixteen bytes of an overlay SEG: type, stroke id, sequence, from, to, width, time. -/
def overlaySegBytes (r : SegRecord) : List Byte :=
  [segTypeByte] ++ bytes16 r.id ++ bytes16 r.sequence ++ bytes16 r.fromX ++ bytes16 r.fromY ++ bytes16 r.toX ++ bytes16 r.toY ++
    [r.width] ++ bytes16 r.time

/-- The twelve bytes of a share SEG (Figure 11-4). -/
def shareSegBytes (r : ShareSeg) : List Byte :=
  [segTypeByte] ++ bytes16 r.id ++ bytes16 r.sequence ++ bytes16 r.toX ++ bytes16 r.toY ++ [r.width] ++ bytes16 r.time

/-- An overlay cell, 16 bytes (R181). -/
def overlayCell : InkRecord → List Byte
  | .openRec r => openBytes r ++ [0, 0, 0, 0]
  | .segRec r => overlaySegBytes r
  | .closeRec r => closeBytes r ++ [0, 0, 0, 0]

/-- A share record, 12 bytes (R181). -/
def shareRecordBytes : ShareRecord → List Byte
  | .openRec r => openBytes r
  | .segRec r => shareSegBytes r
  | .closeRec r => closeBytes r

/-- The share form of a SEG carries the to point alone (R89). -/
def shareForm (r : SegRecord) : ShareSeg := ⟨r.id, r.sequence, r.toX, r.toY, r.width, r.time⟩

/-- A share frame's 12 header bytes and its records (Figure 11-5). -/
def Frame.body (f : Frame) : List Byte :=
  [0x5F] ++ bytes16 f.classroom ++ [f.board] ++ bytes16 f.sequence ++ [f.generation] ++ bytes32 f.time ++
    [byteNat f.records.length] ++ f.records.flatMap shareRecordBytes

/-- A share frame: header, records, CRC-16, the high byte first (R180). -/
def Frame.bytes (f : Frame) : List Byte := Frame.body f ++ bytes16 f.crc

/-- A frame closed with the CRC-16 of its header and records (R138). -/
def Frame.sealed (f : Frame) : Frame := { f with crc := crc16 (Frame.body f) }

/-- Payload bytes as an item list gives them, the rest sent as 0, 25 in all (R181). -/
def padPayload (l : List Byte) : List Byte := (l ++ List.replicate 25 0).take 25

/-- Bytes 0 to 30 of a reply cell (Figure 11-5). -/
def ReplyCell.body (r : ReplyCell) : List Byte :=
  [0xA0] ++ bytes16 r.tag ++ [r.code, byteNat (resultNo r.result), statusByte r.status] ++ r.payload

/-- A reply cell, 32 bytes. -/
def ReplyCell.bytes (r : ReplyCell) : List Byte := ReplyCell.body r ++ [r.crc]

/-- A reply as formed: the payload filled with zeros, the CRC-8 over bytes 0 to 30 (R156, R180). -/
def formReply (tag : Word16) (code : Byte) (result : Result) (status : ReplyStatus) (payload : List Byte) : ReplyCell :=
  let r : ReplyCell := ⟨tag, code, result, status, padPayload payload, 0⟩
  { r with crc := crc8 (ReplyCell.body r) }

end Sys2Proof.Machine
end

