-- ==== Sys2Proof/Machine/Ops.lean ====
section
/-! DEFINITION. The operations over the IN-12's state that every chapter shares: a slot's records, notices and the notice line
(Chapter 10), the zone banks with decode, judgement, binding and release (Chapter 4), and the forming of a reply (R156). An IN-12
takes no exception: what would be one on a processor is a notice, a counter or a result here. -/

namespace Sys2Proof.Machine

/-- The two outcomes of a step on the device: the next state, the waiting steps kept. -/
def State.onDevice (f : Device → Device) (s : State) : Host.Outcome State Fault Refusal := .next { s with dev := f s.dev }

/-! ## A slot's records -/

def Device.slot (d : Device) (i : Slot) : PenSlot := d.pens.slots[i]
def Device.contact (d : Device) (i : Slot) : Contact := d.contacts[i]
def Device.context (d : Device) (i : Slot) : StrokeContext := d.strokes.contexts[i]
def Device.summary (d : Device) (i : Slot) : Summary := d.strokes.summaries[i]
def Device.filter (d : Device) (i : Slot) : FilterValue := d.filters[i]

def Device.setSlot (i : Slot) (p : PenSlot) (d : Device) : Device :=
  { d with pens := { d.pens with slots := d.pens.slots.set i p } }

def Device.setContact (i : Slot) (c : Contact) (d : Device) : Device := { d with contacts := d.contacts.set i c }

def Device.setContext (i : Slot) (c : StrokeContext) (d : Device) : Device :=
  { d with strokes := { d.strokes with contexts := d.strokes.contexts.set i c } }

def Device.setSummary (i : Slot) (c : Summary) (d : Device) : Device :=
  { d with strokes := { d.strokes with summaries := d.strokes.summaries.set i c } }

def Device.setFilter (i : Slot) (v : FilterValue) (d : Device) : Device := { d with filters := d.filters.set i v }

/-- The slots in ascending order, as the events that act on several take them (R97). -/
def allSlots : List Slot := List.finRange 12

/-- The slots that hold an open stroke (R81). -/
def Device.openSlots (d : Device) : List Slot := allSlots.filter fun i => (d.context i).isOpen

/-- The number of BOUND slots (R161). -/
def Device.boundSlots (d : Device) : Nat := allSlots.countP fun i => (d.slot i).binding = .bound

/-! ## Notices -/

/-- The entry of a kind and a subject. -/
def NoticeEntry.names (kind : NoticeKind) (subject : Subject) (e : NoticeEntry) : Bool := e.kind = kind && e.subject = subject

/-- The line condition: an entry at or above the threshold stands (R175). -/
def NoticeQueue.condition (q : NoticeQueue) : Bool := q.entries.any fun e => q.threshold ≤ e.level

/-- The line judged afresh; a pulse runs on (R175, R176). -/
def NoticeQueue.judged (q : NoticeQueue) : NoticeQueue :=
  match q.line with
  | .pulsing => q
  | _ => { q with line := if q.condition then .asserted else .released }

/-- A new entry's place: behind every entry of its own level or higher, before every entry of lower level (R170, step 3). -/
def placeEntry (e : NoticeEntry) : List NoticeEntry → List NoticeEntry
  | [] => [e]
  | x :: rest => if e.level ≤ x.level then x :: placeEntry e rest else e :: x :: rest

/-- The level a kind holds. -/
def NoticeQueue.levelOf (q : NoticeQueue) (k : NoticeKind) : BitVec 3 := q.levels[kindNo k]

/-- A post, in the steps of R170: discarded at level 0, merged, queued, or lost. -/
def NoticeQueue.post (kind : NoticeKind) (subject : Subject) (q : NoticeQueue) : NoticeQueue :=
  if q.levelOf kind = 0 then q
  else if q.entries.any (NoticeEntry.names kind subject) then
    { q with entries := q.entries.map fun e => if e.names kind subject then { e with repeats := satInc e.repeats } else e }
  else if q.entries.length < Config.noticeCapacity then
    NoticeQueue.judged
      { q with entries := placeEntry ⟨kind, subject, q.levelOf kind, 1, q.arrivals⟩ q.entries, arrivals := q.arrivals + 1 }
  else { q with overrun := true }

/-- A post from one of the blocks of Figure 10-1. -/
def Device.post (kind : NoticeKind) (subject : Subject) (d : Device) : Device :=
  { d with notices := d.notices.post kind subject }

/-! ## Zones -/

/-- The other bank. -/
def otherBank : BankName → BankName
  | .a => .b
  | .b => .a

def ZoneTable.bank (z : ZoneTable) : BankName → Bank
  | .a => z.bankA
  | .b => z.bankB

def ZoneTable.setBank (n : BankName) (b : Bank) (z : ZoneTable) : ZoneTable :=
  match n with
  | .a => { z with bankA := b }
  | .b => { z with bankB := b }

/-- The bank against which new contacts are judged. -/
def ZoneTable.activeBank (z : ZoneTable) : Bank := z.bank z.active

/-- The name of the bank that is staging in IDLE and retiring in RETIRING (Figure 4-2). -/
def ZoneTable.other (z : ZoneTable) : BankName := otherBank z.active

/-- The bank of a stroke, by its bound generation: equal to the generation number means the active bank (R66). -/
def ZoneTable.bankOfGeneration (z : ZoneTable) (g : Byte) : BankName := if g = z.generation then z.active else z.other

/-- Whether an enabled zone's rectangle contains a point, its edges included (R61). -/
def Zone.contains (z : Zone) (x y : Word16) : Bool :=
  z.enable && z.xMin ≤ x && x ≤ z.xMax && z.yMin ≤ y && y ≤ z.yMax

/-- The lowest-numbered enabled zone that contains a point, or the open area (R61). -/
def Bank.decode (b : Bank) (x y : Word16) : ZoneNo :=
  match (List.finRange 16).find? fun i => (b.zones[i]).contains x y with
  | some i => i.castSucc
  | none => openAreaNo

/-- The rules of a zone or of the open area. -/
def Bank.rulesOf (b : Bank) (z : ZoneNo) : ZoneRules :=
  if h : z.val < 16 then (b.zones[z.val]).rules else b.openArea

/-- A zone's steering for one group. -/
def steeringFor (s : SteeringSet) (g : Group) : Steering :=
  match g with
  | 0 => s.group0
  | 1 => s.group1
  | 2 => s.group2
  | 3 => s.group3

/-- The steering after the downgrade for a GUEST: SHARE counts as OFF, BOTH as LOCAL (R44, R63). -/
def resolvedSteering (role : Role) (group : Group) (r : ZoneRules) : Steering :=
  match role, steeringFor r.steering group with
  | .guest, .shareInk => .off
  | .guest, .both => .localInk
  | _, s => s

/-- The judgement of R44. -/
def zoneAllows (role : Role) (group : Group) (penEnd : PenEnd) (r : ZoneRules) : Bool :=
  decide (resolvedSteering role group r ≠ .off) && (!r.guarded || decide (role = .teacher)) &&
    (decide (penEnd = .tip) || r.eraseAllowed)

/-- The judgement of a point's zone in the active bank, for the slot as it stands. -/
def Device.allows (d : Device) (i : Slot) (penEnd : PenEnd) (z : ZoneNo) : Bool :=
  zoneAllows (d.slot i).role (d.slot i).group penEnd (d.zones.activeBank.rulesOf z)

/-- A slot sent to BLOCKED by a refusing zone, with the protected-block accounting of R44 and R65. -/
def Device.blockSlot (i : Slot) (z : ZoneNo) (d : Device) : Device :=
  let d := d.setContact i { d.contact i with state := .blocked }
  let b := d.zones.activeBank
  if (b.rulesOf z).guarded then
    let b := { b with blocked := b.blocked.set z (satInc b.blocked[z]) }
    Device.post .protectedBlock (zoneSubject z) { d with zones := d.zones.setBank d.zones.active b }
  else d

/-- A bank that becomes staging: a copy of the active bank's records, its blocked counters at 0 (R65, R69, R71). -/
def ZoneTable.stagingCopy (z : ZoneTable) : Bank := { z.activeBank with blocked := Vector.replicate 17 0, bindings := 0 }

/-- The completion of a retiring, APPLY_DONE left aside (R71). -/
def ZoneTable.completeRetiring (z : ZoneTable) : ZoneTable := { z.setBank z.other z.stagingCopy with apply := .idle }

/-- A stroke's binding reported: the active bank's count increases (R67). -/
def Device.bindStroke (d : Device) : Device :=
  let b := d.zones.activeBank
  { d with zones := d.zones.setBank d.zones.active { b with bindings := b.bindings + 1 } }

/-- A stroke's release reported with its bound generation, and the completion of the retiring that it ends (R67, R71). -/
def Device.releaseStroke (g : Byte) (d : Device) : Device :=
  let n := d.zones.bankOfGeneration g
  let b := d.zones.bank n
  let z := d.zones.setBank n { b with bindings := b.bindings - 1 }
  if z.apply = .retiring ∧ n = z.other ∧ (z.bank n).bindings = 0 then
    Device.post .applyDone none { d with zones := z.completeRetiring }
  else { d with zones := z }

/-! ## Replies -/

/-- Whether the reply queue has room for a reply: fewer than 4 cells, the one in transmission included (R147). -/
def Device.replyRoom (d : Device) : Bool := d.arbiter.replies.length < Config.replyCapacity

/-- A reply formed with the status as it stands and entered at the tail of the reply queue (R155, R156). -/
def Device.reply (tag : Word16) (code : Byte) (result : Result) (payload : List Byte) (d : Device) : Device :=
  { d with arbiter := { d.arbiter with replies := d.arbiter.replies ++ [formReply tag code result d.status payload] } }

/-- A refusal: its reply alone, with a payload of zeros (R156, R158). -/
def Device.refuse (tag : Word16) (code : Byte) (result : Result) (d : Device) : Device := d.reply tag code result []

end Sys2Proof.Machine
end

