-- ==== Sys2Proof/Machine/Filter.lean ====
section
/-! DEFINITION. The Point Filter (Chapter 6), in exact integers: offset correction, seeding, smoothing, the unit point, decimation
and width. -/

namespace Sys2Proof.Machine

/-- A point in whole board units. -/
structure Point where
  x : Word16
  y : Word16
  deriving DecidableEq, Repr

/-- A sample taken at its slot: its fields and its stamp (R7). -/
structure Sample where
  fields : SampleFields
  stamp : Word32
  deriving DecidableEq, Repr

/-- One corrected coordinate: raw plus offset, clamped to 0 to 65535 (R105). -/
def correctAxis (raw : Word16) (offset : Int) : Word16 :=
  let v : Int := raw.toNat + offset
  if v < 0 then 0 else if 65535 < v then 65535 else BitVec.ofNat 16 v.toNat

/-- A sample's corrected point, by the slot's offset as it stands (R104, R105). -/
def Device.corrected (d : Device) (i : Slot) (s : Sample) : Point :=
  ⟨correctAxis s.fields.x (d.slot i).offsetX, correctAxis s.fields.y (d.slot i).offsetY⟩

/-- Division by a power of two, to the nearest whole number, half-way values away from zero (R108, R113). -/
def roundedShift (v : Int) (k : Nat) : Int :=
  if k = 0 then v else v.sign * ((v.natAbs + 2 ^ (k - 1)) / 2 ^ k : Nat)

/-- One axis of a smoothing, with shift `k`, towards sixteen times the corrected coordinate (R108). -/
def smoothAxis (k : Nat) (s : Nat) (target : Word16) : Nat :=
  ((s : Int) + roundedShift (16 * (target.toNat : Int) - s) k).toNat

/-- The seeded filter value of a corrected point (R106). -/
def seedValue (p : Point) : FilterValue := ⟨16 * p.x.toNat, 16 * p.y.toNat⟩

/-- A smoothed filter value (R108). -/
def smoothValue (k : Nat) (p : Point) (v : FilterValue) : FilterValue := ⟨smoothAxis k v.sx p.x, smoothAxis k v.sy p.y⟩

/-- One coordinate of the unit point: the filter value over sixteen, half-way values up, clamped to 65535 (R110). -/
def unitAxis (s : Nat) : Word16 := if 65535 < (s + 8) / 16 then 65535 else BitVec.ofNat 16 ((s + 8) / 16)

/-- The unit point of a filter value (R110). -/
def FilterValue.unitPoint (v : FilterValue) : Point := ⟨unitAxis v.sx, unitAxis v.sy⟩

/-- The unit point of a slot's filter value. -/
def Device.unitPoint (d : Device) (i : Slot) : Point := (d.filter i).unitPoint

/-- A seed request (R103, R106). -/
def Device.seedFilter (i : Slot) (s : Sample) (d : Device) : Device := d.setFilter i (seedValue (d.corrected i s))

/-- A smooth request (R103, R108). -/
def Device.smoothFilter (i : Slot) (s : Sample) (d : Device) : Device :=
  d.setFilter i (smoothValue (d.slot i).params.smoothing.toNat (d.corrected i s) (d.filter i))

/-- The decimation test: a SEG is due when the unit point has moved, and by at least the minimum step (R111). -/
def segmentDue (minStep : Byte) (last p : Point) : Bool :=
  let dx : Int := p.x.toNat - last.x.toNat
  let dy : Int := p.y.toNat - last.y.toNat
  decide ((minStep.toNat : Int) ^ 2 ≤ dx ^ 2 + dy ^ 2) && !(decide (dx = 0) && decide (dy = 0))

/-- A width held to 1 to 255 (R113). -/
def clampWidth (v : Int) : Byte := if v < 1 then 1 else if 255 < v then 255 else BitVec.ofNat 8 v.toNat

/-- A tip's width: the pressure placed between two knots (R113). -/
def tipWidth (k : Knots) (pressure : BitVec 12) : Byte :=
  let i : Fin 8 := ⟨pressure.toNat / 512, by have := pressure.isLt; omega⟩
  let f : Int := (pressure.toNat % 512 : Nat)
  let w0 : Int := (k[i.val]).toNat
  let w1 : Int := (k[i.val + 1]).toNat
  clampWidth (w0 + roundedShift ((w1 - w0) * f) 9)

/-- A width under a zone's width cap, 0 meaning no cap (R115). -/
def capWidth (cap w : Byte) : Byte := if cap = 0 then w else if cap < w then cap else w

/-- The width of a sample for an end and a cap, with the slot's parameters and the curve it selects (R104, R113 to R115). -/
def Device.widthFor (d : Device) (i : Slot) (penEnd : PenEnd) (pressure : BitVec 12) (cap : Byte) : Byte :=
  let p := (d.slot i).params
  capWidth cap (match penEnd with
    | .tip => tipWidth d.pens.curves[index4 p.curve] pressure
    | .eraser => p.eraserWidth)

end Sys2Proof.Machine
end

