-- ==== Sys2Proof/Machine/ShareFramer.lean ====
section
/-! DEFINITION. The Share Framer's own operations (Chapter 8): frame building and its triggers, the pacer's periods, the end of a
draining. -/

namespace Sys2Proof.Machine

/-- A frame buffer that is free (R137). -/
def FrameBuffer.isFree : FrameBuffer → Bool
  | .empty => true
  | _ => false

/-- The lowest-numbered EMPTY buffer (R137). -/
def ShareFramer.freeBuffer (f : ShareFramer) : Option (Fin 2) :=
  if f.buffers[0].isFree then some 0 else if f.buffers[1].isFree then some 1 else none

/-- Whether both frame buffers are empty (R136). -/
def ShareFramer.buffersEmpty (f : ShareFramer) : Bool := f.buffers[0].isFree && f.buffers[1].isFree

/-- The frame that a build makes of these records, with the header of this moment (R138). -/
def Device.frameOf (d : Device) (records : List ShareRecord) : Frame :=
  Frame.sealed
    { classroom := d.framer.classroom, board := d.framer.board, sequence := d.framer.nextSequence,
      generation := d.zones.generation, time := d.clock, records := records, crc := 0 }

/-- A build: up to six records from the head of the share queue into the lowest-numbered EMPTY buffer; a build clears the
pending-flush flag (R138, R139, R141, R151). Without a record or a free buffer there is no build. -/
def Device.buildFrame (d : Device) : Device :=
  match d.framer.freeBuffer with
  | none => d
  | some b =>
    if d.router.shareQueue.isEmpty then d
    else
      let records := d.router.shareQueue.take Config.frameRecords
      { d with
        router := { d.router with shareQueue := d.router.shareQueue.drop Config.frameRecords }
        framer :=
          { d.framer with
            buffers := d.framer.buffers.set b (.held (d.frameOf records))
            heldOrder := d.framer.heldOrder ++ [b]
            nextSequence := d.framer.nextSequence + 1
            pendingFlush := false
            framesBuilt := satInc d.framer.framesBuilt
            recordsFramed := satAdd d.framer.recordsFramed records.length } }

/-- Whether a build can be made: a record queued and a buffer free. -/
def Device.canBuild (d : Device) : Bool := !d.router.shareQueue.isEmpty && d.framer.freeBuffer.isSome

/-- Builds while the queue holds at least `least` records and a buffer is free, at most as often as there are buffers. -/
def Device.buildWhile (least : Nat) : Nat → Device → Device
  | 0, d => d
  | n + 1, d =>
    if least ≤ d.router.shareQueue.length && d.canBuild then Device.buildWhile least n d.buildFrame else d

/-- The six-record trigger of ENABLED (R140). -/
def Device.sixRecordTrigger (d : Device) : Device :=
  if d.framer.state = .enabled then d.buildWhile Config.frameRecords 2 else d

/-- The end of a draining: nothing queued and nothing held (R135, step 4; R136). -/
def Device.endDraining (d : Device) : Device :=
  if d.framer.state = .draining ∧ d.router.shareQueue.isEmpty ∧ d.framer.buffersEmpty then
    Device.post .shareDrained none { d with framer := { d.framer with state := .disabled } }
  else d

/-- The framing of DRAINING: frames while a record is queued and a buffer is free, then the test for the end (R136). -/
def Device.drain (d : Device) : Device := (d.buildWhile 1 2).endDraining

/-- The length in ticks of a period begun at cycle position `c` (R142). -/
def ShareFramer.periodAt (f : ShareFramer) (c : BitVec 4) : Nat := f.period.toNat + (if c < f.fine then 1 else 0)

/-- A period begun at cycle position `c`. -/
def ShareFramer.beginPeriod (c : BitVec 4) (f : ShareFramer) : ShareFramer :=
  { f with cycle := c, timer := some (f.periodAt c) }

/-- The pacer stopped at position 0 (R142). -/
def ShareFramer.stopPacer (f : ShareFramer) : ShareFramer := { f with cycle := 0, timer := none }

/-- An expiry of the pacer or a FLUSH, in ENABLED (R141): a frame built at once, or the flush deferred, or nothing queued. -/
def Device.flushTrigger (d : Device) : Device :=
  if d.router.shareQueue.isEmpty then d
  else if d.framer.freeBuffer.isSome then d.buildFrame
  else
    { d with framer := { d.framer with pendingFlush := true, deferredFlushes := satInc d.framer.deferredFlushes } }

/-- How many records the build of a flush trigger places (R145). -/
def Device.flushRecords (d : Device) : Nat :=
  if d.canBuild then (d.router.shareQueue.take Config.frameRecords).length else 0

/-- What the Share Framer does with a freed buffer: in ENABLED the pending flush (R141), then the six-record trigger (R140); in
DRAINING the framing of R136. -/
def Device.takeFreedBuffer (d : Device) : Device :=
  match d.framer.state with
  | .enabled => (if d.framer.pendingFlush then d.buildFrame else d).sixRecordTrigger
  | .draining => d.drain
  | .disabled => d

end Sys2Proof.Machine
end

