-- ==== Sys2Proof/Machine/Router.lean ====
section
/-! DEFINITION. The Segment Router (Chapter 7): delivery decisions, admission and close reservations, coalescing, truncation, the
copies of a CLOSE, and the synthetic closes of a share disable. -/

namespace Sys2Proof.Machine

/-- The outstanding overlay close reservations. -/
def Router.overlayReservations (r : Router) : Nat := r.deliveries.countP (·.overlayReserved)

/-- The outstanding share close reservations. -/
def Router.shareReservations (r : Router) : Nat := r.deliveries.countP (·.shareReserved)

/-- The overlay queue's admission test (R120). -/
def Router.overlayAdmits (r : Router) (need : Nat) : Bool :=
  r.overlayQueue.length + r.overlayReservations + need ≤ Config.overlayCapacity

/-- The share queue's admission test (R120). -/
def Router.shareAdmits (r : Router) (need : Nat) : Bool :=
  r.shareQueue.length + r.shareReservations + need ≤ Config.shareCapacity

/-- The delivery record of a stroke (R118). -/
def Router.delivery (r : Router) (id : Word16) : Option Delivery := r.deliveries.find? fun v => v.id = id

/-- A change to the delivery record of a stroke. -/
def Router.mapDelivery (id : Word16) (f : Delivery → Delivery) (r : Router) : Router :=
  { r with deliveries := r.deliveries.map fun v => if v.id = id then f v else v }

/-- Steering that sends ink to the overlay: LOCAL or BOTH (R119). -/
def toOverlay : Steering → Bool
  | .localInk => true
  | .both => true
  | _ => false

/-- Steering that sends ink to the share path: SHARE or BOTH (R119). -/
def toShare : Steering → Bool
  | .shareInk => true
  | .both => true
  | _ => false

/-- An OPEN record taken by the router: the overlay side, then the share side, each decided on its own (R119, R120, R122, R125). Where both
sides refuse it, OVERLAY_STALL is posted before SHARE_OVERFLOW: R119 lists the two sides in this order and gives the two posts none, and R171
leaves the order to it (DESIGN CHOICE, log entry 16). -/
def Device.routeOpen (o : OpenRecord) (steering : Steering) (d : Device) : Device :=
  let r := d.router
  let overlayAsked := toOverlay steering
  let overlayIn := overlayAsked && r.overlayAdmits 2
  let shareAsked := toShare steering && decide (o.role ≠ .guest) && decide (d.framer.state = .enabled)
  let shareIn := shareAsked && r.shareAdmits 2
  let overlayRefused := overlayAsked && !overlayIn
  let shareRefused := shareAsked && !shareIn
  let v : Delivery :=
    { id := o.id, slot := o.slot, overlayLive := overlayIn, overlaySuppressed := overlayRefused, overlayGap := false,
      coalesced := false, shareLive := shareIn, shareTruncated := shareRefused, overlayReserved := overlayIn,
      shareReserved := shareIn }
  let d : Device :=
    { d with router :=
        { r with
          deliveries := r.deliveries ++ [v]
          overlayQueue := if overlayIn then r.overlayQueue ++ [.openRec o] else r.overlayQueue
          shareQueue := if shareIn then r.shareQueue ++ [.openRec o] else r.shareQueue
          suppressedStrokes := if overlayRefused then satInc r.suppressedStrokes else r.suppressedStrokes
          truncatedStrokes := if shareRefused then satInc r.truncatedStrokes else r.truncatedStrokes } }
  let d := if overlayRefused then d.post .overlayStall (slotSubject o.slot) else d
  let d := if shareRefused then d.post .shareOverflow (slotSubject o.slot) else d
  if shareIn then d.sixRecordTrigger else d

/-- The stroke id that a record carries. -/
def InkRecord.id : InkRecord → Word16
  | .openRec r => r.id
  | .segRec r => r.id
  | .closeRec r => r.id

/-- A refused SEG merged into the newest queued SEG of its stroke, which keeps its own sequence and from point (R123). Ids are given again
(R83), and R123 does not say how a queued record is known to be of the same stroke: the newest queued record that carries the id decides. A
SEG there is of this stroke; an OPEN there is this stroke's own, and whatever stands before it is of an earlier one (DEDUCED, log entry 15). -/
def coalesceNewest (s : SegRecord) : List InkRecord → Option (List InkRecord)
  | [] => none
  | x :: rest =>
    if rest.any fun r => r.id = s.id then (coalesceNewest s rest).map (x :: ·)
    else
      match x with
      | .segRec t =>
        if t.id = s.id then some (.segRec { t with toX := s.toX, toY := s.toY, width := s.width, time := s.time } :: rest)
        else none
      | _ => none

/-- The same, over a queue whose head may be in transmission and is then no target (R123, R128). -/
def coalesceQueued (headSent : Bool) (s : SegRecord) (q : List InkRecord) : Option (List InkRecord) :=
  match headSent, q with
  | true, x :: rest => (coalesceNewest s rest).map (x :: ·)
  | _, _ => coalesceNewest s q

/-- A SEG of an overlay-live stroke offered to the overlay queue: admitted, coalesced or dropped (R120, R123). -/
def Router.offerOverlaySeg (s : SegRecord) (r : Router) : Router :=
  if r.overlayAdmits 1 then { r with overlayQueue := r.overlayQueue ++ [.segRec s] }
  else
    match coalesceQueued r.overlayTx.isSome s r.overlayQueue with
    | some q =>
      Router.mapDelivery s.id (fun v => { v with coalesced := true })
        { r with overlayQueue := q, coalescedSegs := satInc r.coalescedSegs }
    | none =>
      Router.mapDelivery s.id (fun v => { v with overlayGap := true }) { r with droppedSegs := satInc r.droppedSegs }

/-- A SEG of a share-live stroke that is not truncated, offered to the share queue: admitted, or the stroke truncated (R125). -/
def Device.offerShareSeg (slot : Slot) (s : SegRecord) (d : Device) : Device :=
  let r := d.router
  if r.shareAdmits 1 then
    Device.sixRecordTrigger { d with router := { r with shareQueue := r.shareQueue ++ [.segRec (shareForm s)] } }
  else
    let counted : Router := { r with truncatedStrokes := satInc r.truncatedStrokes }
    let cut := counted.mapDelivery s.id fun v => { v with shareTruncated := true }
    Device.post .shareOverflow (slotSubject slot) { d with router := cut }

/-- A SEG record taken by the router, by its stroke's delivery record (R118). -/
def Device.routeSeg (slot : Slot) (s : SegRecord) (d : Device) : Device :=
  match d.router.delivery s.id with
  | none => d
  | some v =>
    let d := if v.overlayLive then { d with router := d.router.offerOverlaySeg s } else d
    if v.shareLive && !v.shareTruncated then d.offerShareSeg slot s else d

/-- A CLOSE record taken by the router: the copies enter on their reservations and the delivery record ends (R121, R124). The flags
handed back are those of `Router.delivery` before it. -/
def Device.routeClose (id count : Word16) (reason : CloseReason) (laneGap : Bool) (time : Word16) (d : Device) : Device :=
  let r := d.router
  match r.delivery id with
  | none => d
  | some v =>
    let overlayCopy : CloseRecord := ⟨id, count, reason, overlayCloseFlags laneGap v, time⟩
    let shareCopy : CloseRecord := ⟨id, count, reason, shareCloseFlags laneGap v, time⟩
    let d : Device :=
      { d with router :=
          { r with
            deliveries := r.deliveries.filter fun u => u.id ≠ id
            overlayQueue := if v.overlayLive then r.overlayQueue ++ [.closeRec overlayCopy] else r.overlayQueue
            shareQueue := if v.shareLive then r.shareQueue ++ [.closeRec shareCopy] else r.shareQueue } }
    if v.shareLive then d.sixRecordTrigger else d

/-- Whether the stroke of a slot is share-live. -/
def Device.shareLiveAt (d : Device) (i : Slot) : Bool :=
  (d.context i).isOpen && (d.router.delivery (d.context i).id).any (·.shareLive)

/-- The synthetic SHARE_OFF close of one slot's stroke: it enters on the stroke's share reservation, and the stroke stops being
share-live (R127). -/
def Device.shareOffClose (d : Device) (i : Slot) : Device :=
  let k := d.context i
  match d.router.delivery k.id with
  | none => d
  | some v =>
    if k.isOpen && v.shareLive then
      let copy : CloseRecord := ⟨k.id, k.count, .shareOff, shareCloseFlags k.laneGap v, d.clock.setWidth 16⟩
      let entered : Router := { d.router with shareQueue := d.router.shareQueue ++ [.closeRec copy] }
      { d with router := entered.mapDelivery k.id fun u => { u with shareLive := false, shareReserved := false } }
    else d

/-- The router's part of a share disable: a synthetic close for each share-live stroke, in ascending order of slot (R127). -/
def Device.shareOff (d : Device) : Device := allSlots.foldl Device.shareOffClose d

end Sys2Proof.Machine
end

