-- ==== Sys2Proof/Machine/Strokes.lean ====
section
/-! DEFINITION. The Stroke Assembler (Chapter 5): ids, opens, continues, splits, closes and the lane-gap marking. -/

namespace Sys2Proof.Machine

/-- The value after a stroke id, from 65535 to 1 (R83). -/
def nextId (c : Word16) : Word16 := if c = 0xFFFF then 1 else c + 1

/-- The first candidate that no open stroke carries, in at most `n` advances (R83). -/
def freeId (used : List Word16) : Nat → Word16 → Word16
  | 0, c => c
  | n + 1, c => if c ∈ used then freeId used n (nextId c) else c

/-- The ids of the open strokes. -/
def Device.usedIds (d : Device) : List Word16 := d.openSlots.map fun i => (d.context i).id

/-- The id that the next open gets: at most 11 other strokes are open (R83). -/
def Device.newId (d : Device) : Word16 := freeId d.usedIds 11 d.strokes.candidate

/-- What an open request gives beside the slot (R85). -/
structure OpenRequest where
  zone : ZoneNo
  penEnd : PenEnd
  pressure : BitVec 12
  stamp : Word32
  continued : Bool
  deriving DecidableEq, Repr

/-- The context of a new stroke (R85, steps 1 to 5). -/
def Device.openedContext (i : Slot) (q : OpenRequest) (d : Device) : StrokeContext :=
  let p := d.slot i
  let rules := d.zones.activeBank.rulesOf q.zone
  let u := d.unitPoint i
  { isOpen := true, id := d.newId, role := p.role, group := p.group,
    colour := (match q.penEnd with | .tip => p.colour | .eraser => 0), penEnd := q.penEnd, zone := q.zone,
    generation := d.zones.generation, steering := resolvedSteering p.role p.group rules, widthCap := rules.widthCap,
    openTime := q.stamp, sequence := 0, count := 0, lastX := u.x, lastY := u.y,
    lastWidth := d.widthFor i q.penEnd q.pressure rules.widthCap, laneGap := false, continued := q.continued }

/-- The OPEN record of a context just opened (R86). -/
def openRecordOf (i : Slot) (k : StrokeContext) : OpenRecord :=
  { id := k.id, slot := i, role := k.role, group := k.group, penEnd := k.penEnd, colour := k.colour, zone := k.zone, x := k.lastX,
    y := k.lastY, width := k.lastWidth, time := k.openTime.setWidth 16, continued := k.continued }

/-- An open, in the steps of R85, at the slot's unit point: id, context, binding, OPEN record. -/
def Device.openStroke (i : Slot) (q : OpenRequest) (d : Device) : Device :=
  let k := d.openedContext i q
  let d := d.setContext i k
  let d := { d with strokes := { d.strokes with candidate := nextId k.id } }
  (d.bindStroke).routeOpen (openRecordOf i k) k.steering

/-- A SEG from the last emitted point to `p` (R88, steps 1 to 4). -/
def Device.emitSeg (i : Slot) (p : Point) (width : Byte) (stamp : Word32) (d : Device) : Device :=
  let k := d.context i
  let s : SegRecord :=
    { id := k.id, sequence := k.sequence + 1, fromX := k.lastX, fromY := k.lastY, toX := p.x, toY := p.y, width := width,
      time := stamp.setWidth 16 }
  (d.setContext i
    { k with sequence := k.sequence + 1, count := satInc k.count, lastX := p.x, lastY := p.y, lastWidth := width }).routeSeg i s

/-- The width of a sample for the open stroke of a slot: its snapshot end and its cap (R88, R115). -/
def Device.strokeWidth (i : Slot) (s : Sample) (d : Device) : Byte :=
  d.widthFor i (d.context i).penEnd s.fields.pressure (d.context i).widthCap

/-- A continue request: the sample smoothed, then a SEG when one is due (R88). -/
def Device.continueStroke (i : Slot) (s : Sample) (d : Device) : Device :=
  let d := d.smoothFilter i s
  let k := d.context i
  if segmentDue (d.slot i).params.minStep ⟨k.lastX, k.lastY⟩ (d.unitPoint i) then
    d.emitSeg i (d.unitPoint i) (d.strokeWidth i s) s.stamp
  else d

/-- The last-stroke summary that a close leaves (R99). -/
def summaryOf (k : StrokeContext) (reason : CloseReason) (closeTime : Word32) (v : Option Delivery) : Summary :=
  { id := k.id, reason := reason, count := k.count, penEnd := k.penEnd, zone := k.zone, generation := k.generation,
    openTime := k.openTime, closeTime := closeTime, flags := summaryFlags k v }

/-- A close, in the steps of R93: the CLOSE record routed, the summary replaced, the release reported, the context closed. A slot
whose context is closed has no stroke to close. -/
def Device.closeStroke (i : Slot) (reason : CloseReason) (closeTime : Word32) (d : Device) : Device :=
  let k := d.context i
  if k.isOpen then
    let v := d.router.delivery k.id
    let d := d.routeClose k.id k.count reason k.laneGap (closeTime.setWidth 16)
    let d := d.setSummary i (summaryOf k reason closeTime v)
    let d := d.releaseStroke k.generation
    d.setContext i StrokeContext.closed
  else d

/-- An allowed split: final SEG where the split point differs, CLOSE, continuation (R90). -/
def Device.splitAllowed (i : Slot) (s : Sample) (zone : ZoneNo) (d : Device) : Device :=
  let d := d.smoothFilter i s
  let p := d.unitPoint i
  let k := d.context i
  let d := if p = ⟨k.lastX, k.lastY⟩ then d else d.emitSeg i p (d.strokeWidth i s) s.stamp
  let d := d.closeStroke i .zoneExit s.stamp
  d.openStroke i ⟨zone, k.penEnd, s.fields.pressure, s.stamp, true⟩

/-- A refused split: the sample smoothed, the old stroke closed, no final SEG, no new stroke (R91). -/
def Device.splitRefused (i : Slot) (s : Sample) (d : Device) : Device :=
  (d.smoothFilter i s).closeStroke i .zoneExit s.stamp

/-- A lane gap reported: every open stroke whose slot's current lane is that lane is marked (R9, R98). -/
def Device.markLaneGap (l : Lane) (d : Device) : Device :=
  { d with strokes :=
      { d.strokes with contexts :=
          d.strokes.contexts.mapFinIdx fun i k h =>
            if k.isOpen && decide ((d.slot ⟨i, h⟩).lane = l) then { k with laneGap := true } else k } }

end Sys2Proof.Machine
end

