-- ==== Sys2Proof/Machine/ContactUnit.lean ====
section
/-! DEFINITION. The Contact Unit (Chapter 3): how a slot's contact state takes samples, proximity events, timer expiries, and the
events from outside (link down, FORCE LEAVE, RETIRE NOW), and what it asks of the Stroke Assembler (Figure 3-2). -/

namespace Sys2Proof.Machine

/-- The presence timeout in milliseconds: ten times the stored count (R38). -/
def Device.presenceTimeout (d : Device) : Nat := 10 * d.pens.presenceCount.toNat

/-- The presence timer started or restarted (R45). -/
def Device.restartPresence (i : Slot) (d : Device) : Device :=
  d.setContact i { d.contact i with presence := some d.presenceTimeout }

/-- A slot's contact state changed, the rest of its contact fields kept. -/
def Device.setState (i : Slot) (c : ContactState) (d : Device) : Device := d.setContact i { d.contact i with state := c }

/-- A slot sent to AWAY: its timers stop and a settle or a capture wait under way is abandoned (R45, R57, R2). The
values that the abandoned counter and wait take are DEDUCED from R41, R50 and R56 (log entry 9). -/
def Device.goAway (i : Slot) (d : Device) : Device :=
  d.setContact i
    { d.contact i with state := .away, settle := 0, wait := .ended, liftHold := none, presence := none }

/-- The effective end of a sample: ERASER by the end bit, or by the button where button-erase is on (R43). -/
def Device.effectiveEnd (d : Device) (i : Slot) (s : Sample) : PenEnd :=
  if s.fields.penEnd = .eraser then .eraser
  else if s.fields.button && (d.slot i).params.buttonErase then .eraser else .tip

/-- A sample's zone in the active bank, by its corrected point (R44, R61). -/
def Device.activeZone (d : Device) (i : Slot) (s : Sample) : ZoneNo :=
  d.zones.activeBank.decode (d.corrected i s).x (d.corrected i s).y

/-- A sample's zone in the bank of the slot's open stroke (R62). -/
def Device.boundBankZone (d : Device) (i : Slot) (s : Sample) : ZoneNo :=
  (d.zones.bank (d.zones.bankOfGeneration (d.context i).generation)).decode (d.corrected i s).x (d.corrected i s).y

/-- The open that a sample makes in a zone that allows the pen: a stroke bound there, and the slot INKING. -/
def Device.openFrom (i : Slot) (s : Sample) (zone : ZoneNo) (d : Device) : Device :=
  (d.openStroke i ⟨zone, d.effectiveEnd i s, s.fields.pressure, s.stamp, false⟩).setState i .inking

/-- The completion of an offset capture: the offset from the target and the raw point, capture disarmed (R56). -/
def Device.completeCapture (i : Slot) (s : Sample) (d : Device) : Device :=
  let p := d.slot i
  let d := d.setSlot i
    { p with
      offsetX := clampOffset ((p.targetX.toNat : Int) - s.fields.x.toNat)
      offsetY := clampOffset ((p.targetY.toNat : Int) - s.fields.y.toNat)
      captureArmed := false }
  let d := d.setContact i { d.contact i with wait := .ended }
  d.post .offsetCaptured (slotSubject i)

/-- A contact begin, in the steps of R49. -/
def Device.contactBegin (i : Slot) (s : Sample) (d : Device) : Device :=
  let d := d.seedFilter i s
  let zone := d.activeZone i s
  let count := (d.slot i).params.settleCount.toNat
  if !d.allows i (d.effectiveEnd i s) zone then d.blockSlot i zone
  else if (d.slot i).captureArmed then
    let d := d.setContact i { d.contact i with state := .capture, wait := .waiting, settle := count }
    if count = 0 then d.completeCapture i s else d
  else if count = 0 then d.openFrom i s zone
  else d.setContact i { d.contact i with state := .settling, settle := count }

/-- A sample taken in HOVER (R48, R49). -/
def Device.hoverSample (i : Slot) (s : Sample) (d : Device) : Device :=
  if s.fields.pressure < (d.slot i).params.down then d else d.contactBegin i s

/-- A sample taken in SETTLING (R50). -/
def Device.settlingSample (i : Slot) (s : Sample) (d : Device) : Device :=
  if s.fields.pressure < effectiveUp (d.slot i).params then
    d.setContact i
      { d.contact i with state := .hover, settle := 0, shortContacts := satInc (d.contact i).shortContacts }
  else
    let d := d.smoothFilter i s
    let left := (d.contact i).settle - 1
    let d := d.setContact i { d.contact i with settle := left }
    if 0 < left then d
    else
      let zone := d.activeZone i s
      if d.allows i (d.effectiveEnd i s) zone then d.openFrom i s zone else d.blockSlot i zone

/-- An end change: END_CHANGE, then a new contact at once, without settle and without capture (R51, step 1; R96). -/
def Device.endChange (i : Slot) (s : Sample) (d : Device) : Device :=
  let d := (d.closeStroke i .endChange s.stamp).seedFilter i s
  let zone := d.activeZone i s
  if d.allows i (d.effectiveEnd i s) zone then d.openFrom i s zone else d.blockSlot i zone

/-- A sample at or above the effective up threshold, taken in INKING (R51). At a refusal the close comes before the protected-block
accounting (DEDUCED, log entry 11). -/
def Device.inkSample (i : Slot) (s : Sample) (d : Device) : Device :=
  if d.effectiveEnd i s ≠ (d.context i).penEnd then d.endChange i s
  else if d.boundBankZone i s = (d.context i).zone then d.continueStroke i s
  else
    let zone := d.activeZone i s
    if d.allows i (d.effectiveEnd i s) zone then d.splitAllowed i s zone
    else (d.splitRefused i s).blockSlot i zone

/-- A lift: a close at once with lift-hold 0, else HOLDING with the lift-hold timer running (R52). -/
def Device.lift (i : Slot) (s : Sample) (d : Device) : Device :=
  let d := d.setContact i { d.contact i with liftTime := s.stamp }
  let hold := (d.slot i).params.liftHold.toNat
  if hold = 0 then (d.closeStroke i .lift s.stamp).setState i .hover
  else d.setContact i { d.contact i with state := .holding, liftHold := some hold }

/-- A sample taken in INKING (R51, R52). -/
def Device.inkingSample (i : Slot) (s : Sample) (d : Device) : Device :=
  if s.fields.pressure < effectiveUp (d.slot i).params then d.lift i s else d.inkSample i s

/-- A sample taken in HOLDING: a re-contact at or above the down threshold, else ignored (R53). -/
def Device.holdingSample (i : Slot) (s : Sample) (d : Device) : Device :=
  if s.fields.pressure < (d.slot i).params.down then d
  else (d.setContact i { d.contact i with state := .inking, liftHold := none }).inkSample i s

/-- A sample taken in BLOCKED, judged again without counting (R55). -/
def Device.blockedSample (i : Slot) (s : Sample) (d : Device) : Device :=
  if s.fields.pressure < effectiveUp (d.slot i).params then d.setState i .hover
  else
    let zone := d.activeZone i s
    if d.allows i (d.effectiveEnd i s) zone then (d.seedFilter i s).openFrom i s zone else d

/-- A sample taken in CAPTURE (R56). -/
def Device.captureSample (i : Slot) (s : Sample) (d : Device) : Device :=
  if s.fields.pressure < effectiveUp (d.slot i).params then
    d.setContact i { d.contact i with state := .hover, settle := 0, wait := .ended }
  else
    match (d.contact i).wait with
    | .ended => d
    | .waiting =>
      let left := (d.contact i).settle - 1
      let d := d.setContact i { d.contact i with settle := left }
      if left = 0 then d.completeCapture i s else d

/-- A sample at its slot: every sample of an in-range slot restarts the presence timer, and one in AWAY brings the slot to HOVER
first (R45, R47). -/
def Device.takeSample (i : Slot) (s : Sample) (d : Device) : Device :=
  match (d.contact i).state with
  | .free => d
  | .away => ((d.setState i .hover).restartPresence i).hoverSample i s
  | .hover => (d.restartPresence i).hoverSample i s
  | .settling => (d.restartPresence i).settlingSample i s
  | .inking => (d.restartPresence i).inkingSample i s
  | .holding => (d.restartPresence i).holdingSample i s
  | .blocked => (d.restartPresence i).blockedSample i s
  | .capture => (d.restartPresence i).captureSample i s

/-- A PROXIMITY ENTER at its slot (R47, R48). -/
def Device.takeEnter (i : Slot) (d : Device) : Device :=
  match (d.contact i).state with
  | .free => d
  | .away => (d.setState i .hover).restartPresence i
  | _ => d.restartPresence i

/-- A PROXIMITY LEAVE at its slot, with its stamp (R57). -/
def Device.takeLeave (i : Slot) (stamp : Word32) (d : Device) : Device :=
  match (d.contact i).state with
  | .free => d
  | .away => d
  | .inking => (d.closeStroke i .lost stamp).goAway i
  | .holding => (d.closeStroke i .lift (d.contact i).liftTime).goAway i
  | _ => d.goAway i

/-- A slot taken out of range from outside, an open stroke closing with the given reason at the session clock: presence expiry
(R45), link down (R2), FORCE LEAVE (R36). -/
def Device.dropRange (i : Slot) (reason : CloseReason) (d : Device) : Device :=
  match (d.contact i).state with
  | .free => d
  | .away => d
  | .inking => (d.closeStroke i reason d.clock).goAway i
  | .holding => (d.closeStroke i reason d.clock).goAway i
  | _ => d.goAway i

/-- A RETIRED close taken at its slot: INKING goes to BLOCKED, HOLDING to HOVER with its lift-hold timer cancelled (R58). -/
def Device.retireStroke (d : Device) (i : Slot) : Device :=
  let d := d.closeStroke i .retired d.clock
  match (d.contact i).state with
  | .inking => d.setState i .blocked
  | .holding => d.setContact i { d.contact i with state := .hover, liftHold := none }
  | _ => d

/-- The expiry of a slot's presence timer, when its last tick has come (R12, R45). -/
def Device.presenceExpires (i : Slot) (d : Device) : Device :=
  if (d.contact i).presence = some 0 then d.dropRange i .lost else d

/-- The expiry of a slot's lift-hold timer, when its last tick has come: LIFT at the lift time, and HOVER (R12, R53). -/
def Device.liftHoldExpires (i : Slot) (d : Device) : Device :=
  if (d.contact i).state = .holding ∧ (d.contact i).liftHold = some 0 then
    let d := d.closeStroke i .lift (d.contact i).liftTime
    d.setContact i { d.contact i with state := .hover, liftHold := none }
  else d

/-- One tick of a timer: the ticks left fall by one, and at 0 the timer is due: its expiry is taken before the next tick (R12;
DESIGN CHOICE, log entry 3). -/
def tickTimer : Option Nat → Option Nat := Option.map (· - 1)

/-- The tick itself: every running millisecond timer and the session clock advance (R11, R12). -/
def Device.tick (d : Device) : Device :=
  { d with
    clock := d.clock + 1
    contacts := d.contacts.map fun c => { c with liftHold := tickTimer c.liftHold, presence := tickTimer c.presence }
    framer := { d.framer with timer := tickTimer d.framer.timer } }

end Sys2Proof.Machine
end

