-- ==== Sys2Proof/Machine/PenTable.lean ====
section
/-! DEFINITION. The Pen Table (Chapter 2): admission, binding, eviction and freeing, and the way of a pen cell to its slot. -/

namespace Sys2Proof.Machine

/-- What an admission lookup gives (R17, R18). -/
structure Admission where
  role : Role
  group : Group
  colour : BitVec 4
  profile : BitVec 2
  deriving DecidableEq, Repr

/-- The guest result (R18). -/
def guestAdmissionResult : Admission := ⟨.guest, 3, 15, 0⟩

/-- Whether an entry matches a transducer id: enabled, and equal where the mask holds a 1 (R17). -/
def AdmissionEntry.accepts (e : AdmissionEntry) (t : Word24) : Bool := e.enable && (t ^^^ e.matchValue) &&& e.mask = 0

/-- An admission lookup: the first matching entry, else the guest result where guest admission is on (R17, R18). -/
def PenTable.termsFor (p : PenTable) (t : Word24) : Option Admission :=
  match (List.finRange 8).find? fun i => (p.admission[i]).accepts t with
  | some i => let e := p.admission[i]; some ⟨e.role, e.group, e.colour, e.profile⟩
  | none => if p.guestAdmission then some guestAdmissionResult else none

/-- The BOUND slot that holds a transducer id (R21, R22). -/
def Device.slotOfPen (d : Device) (t : Word24) : Option Slot :=
  allSlots.find? fun i => (d.slot i).binding = .bound && (d.slot i).transducer = t

/-- A slot freed: the fields of R25, the contact fields of R41 and the filter value of R103. -/
def Device.freeSlot (i : Slot) (d : Device) : Device :=
  let d := d.setSlot i
    { d.slot i with
      binding := .free, transducer := 0, lane := 0, offsetX := 0, offsetY := 0, captureArmed := false, targetX := 0, targetY := 0,
      lastSeen := 0 }
  (d.setContact i Contact.reset).setFilter i ⟨0, 0⟩

/-- The age of a recorded time (R13). -/
def Device.age (d : Device) (t : Word32) : Word32 := d.clock - t

/-- The AWAY slot with the oldest last-seen time, the lowest-numbered among equals (R24). -/
def Device.oldestAway (d : Device) : Option Slot :=
  allSlots.foldl
    (fun best i =>
      if (d.contact i).state = .away then
        match best with
        | none => some i
        | some j => if d.age (d.slot j).lastSeen < d.age (d.slot i).lastSeen then some i else some j
      else best)
    none

/-- The lowest-numbered slot that is enabled and FREE (R24). -/
def Device.freeSlotNo (d : Device) : Option Slot :=
  allSlots.find? fun i => (d.slot i).enabled && (d.slot i).binding = .free

/-- An eviction: the slot freed, PEN_EVICTED posted, the eviction counted (R24). -/
def Device.evict (i : Slot) (d : Device) : Device :=
  let d := (d.freeSlot i).post .penEvicted (slotSubject i)
  { d with pens := { d.pens with evictions := satInc d.pens.evictions } }

/-- The choice of a slot for a bind attempt, with the eviction that it may take (R24). -/
def Device.chooseSlot (d : Device) : Option (Slot × Device) :=
  match d.freeSlotNo with
  | some i => some (i, d)
  | none =>
    match d.oldestAway with
    | some i => some (i, d.evict i)
    | none => none

/-- A chosen slot bound to a pen, in HOVER with its presence timer running (R23, steps 3 to 5; R41, R45). -/
def Device.bindSlot (i : Slot) (t : Word24) (lane : Lane) (a : Admission) (stamp : Word32) (d : Device) : Device :=
  let d := d.setSlot i
    { d.slot i with
      binding := .bound, transducer := t, lane := lane, role := a.role, group := a.group, colour := a.colour,
      params := d.pens.profiles[index4 a.profile], offsetX := 0, offsetY := 0, captureArmed := false, targetX := 0, targetY := 0,
      lastSeen := stamp }
  let d := d.post .penBound (slotSubject i)
  let d := { d with pens := { d.pens with binds := satInc d.pens.binds } }
  (d.setContact i { Contact.reset with state := .hover }).restartPresence i

/-- A bind attempt: the bound slot, or the reason it ended, counted and posted (R18, R23, R24). -/
def Device.bindAttempt (t : Word24) (lane : Lane) (stamp : Word32) (d : Device) : Option Slot × Device :=
  match d.pens.termsFor t with
  | none =>
    (none, Device.post .unknownPen (laneSubject lane) { d with pens := { d.pens with misses := satInc d.pens.misses } })
  | some a =>
    match d.chooseSlot with
    | none =>
      (none,
        Device.post .penTableFull (laneSubject lane) { d with pens := { d.pens with tableFull := satInc d.pens.tableFull } })
    | some (i, d) => (some i, d.bindSlot i t lane a stamp)

/-- A bound pen's cell at the Pen Table: its stamp and its lane recorded (R22). -/
def Device.seen (i : Slot) (lane : Lane) (stamp : Word32) (d : Device) : Device :=
  d.setSlot i { d.slot i with lastSeen := stamp, lane := lane }

/-- A SAMPLE cell at the Pen Table (R22, R23). -/
def Device.penSample (lane : Lane) (s : Sample) (d : Device) : Device :=
  match d.slotOfPen s.fields.transducer with
  | some i => (d.seen i lane s.stamp).takeSample i s
  | none =>
    match d.bindAttempt s.fields.transducer lane s.stamp with
    | (some i, d) => d.takeSample i s
    | (none, d) => d

/-- A PROXIMITY cell at the Pen Table (R22, R23): a LEAVE from an unbound pen is ignored. -/
def Device.penProximity (lane : Lane) (t : Word24) (e : ProximityEvent) (stamp : Word32) (d : Device) : Device :=
  match d.slotOfPen t, e with
  | some i, .enter => (d.seen i lane stamp).takeEnter i
  | some i, .leave => (d.seen i lane stamp).takeLeave i stamp
  | none, .enter => (d.bindAttempt t lane stamp).2
  | none, .leave => d

end Sys2Proof.Machine
end

