-- ==== Sys2Proof/Machine/CellReceiver.lean ====
section
/-! DEFINITION. The Cell Receiver's operations (Chapter 1): the link-valid line, bad cells, the lane sequence check, and the
handing of pen cells to the Pen Table. A COMMAND cell goes to the Management Responder (Responder.lean). -/

namespace Sys2Proof.Machine

def Device.setLane (l : Lane) (s : LaneState) (d : Device) : Device :=
  { d with receiver := { d.receiver with lanes := d.receiver.lanes.set l s } }

def Device.lane (d : Device) (l : Lane) : LaneState := d.receiver.lanes[l]

/-- A cell dropped for its CRC-8 or its kind: counted against the lane it names, and posted (R4, R5, R10). -/
def Device.badCell (l : Lane) (d : Device) : Device :=
  (d.setLane l { d.lane l with badCells := satInc (d.lane l).badCells }).post .cellError (laneSubject l)

/-- Whether a cell's sequence number passes its lane's check (R8, R9). -/
def LaneState.passes (s : LaneState) (n : BitVec 4) : Bool :=
  match s.expected with
  | none => true
  | some e => n = e

/-- The lane sequence check: on a gap the counter, LANE_GAP and the marking; in either case the next expected value (R8, R9). -/
def Device.checkSequence (l : Lane) (n : BitVec 4) (d : Device) : Device :=
  if (d.lane l).passes n then d.setLane l { d.lane l with expected := some (n + 1) }
  else
    let d := d.setLane l { d.lane l with gaps := satInc (d.lane l).gaps }
    let d := (d.post .laneGap (laneSubject l)).markLaneGap l
    d.setLane l { d.lane l with expected := some (n + 1) }

/-- A SAMPLE cell that passed its checks: stamped, sequence-checked, handed to the Pen Table (R7). -/
def Device.arriveSample (l : Lane) (n : BitVec 4) (f : SampleFields) (d : Device) : Device :=
  (d.checkSequence l n).penSample l ⟨f, d.clock⟩

/-- A PROXIMITY cell that passed its checks (R7). -/
def Device.arriveProximity (l : Lane) (n : BitVec 4) (t : Word24) (e : ProximityEvent) (d : Device) : Device :=
  (d.checkSequence l n).penProximity l t e d.clock

/-- The fall of the link-valid line: DOWN, ready released, and every slot taken out of range in ascending order, open strokes
closing with LOST (R1, R2, R97). -/
def Device.linkFalls (d : Device) : Device :=
  let d : Device := { d with receiver := { d.receiver with link := .down, ingressReady := false } }
  allSlots.foldl (fun d i => d.dropRange i .lost) d

/-- The rise of the link-valid line: UP, ready asserted, every lane's expected value NONE (R3). -/
def Device.linkRises (d : Device) : Device :=
  { d with receiver :=
      { link := .up, ingressReady := true, lanes := d.receiver.lanes.map fun s => { s with expected := none } } }

/-- The release of RESET: every block at its hard-reset values, and the rise taken at once where the line is active (R1, R16). -/
def hardResetDevice (linkValid : Bool) : Device := if linkValid then Device.reset.linkRises else Device.reset

end Sys2Proof.Machine
end

