-- ==== Sys2Proof/Machine/RangeReads.lean ====
section
/-! DEFINITION. Range reads (R157): what each item's reply carries (Figure 11-6), how a read runs while the reply queue has room,
and the commands that start one. -/

namespace Sys2Proof.Machine

/-! ## The counter groups (Figure 9-4) -/

/-- The counters of a group, in the group's order. -/
def Device.groupCounters (d : Device) (group : BitVec 3) : List Word16 :=
  match group.toNat with
  | 0 => d.receiver.lanes.toList.map (·.badCells) ++ d.receiver.lanes.toList.map (·.gaps)
  | 1 => [d.pens.binds, d.pens.evictions, d.pens.misses, d.pens.tableFull]
  | 2 => d.zones.activeBank.blocked.toList
  | 3 => [d.router.coalescedSegs, d.router.droppedSegs, d.router.suppressedStrokes, d.router.truncatedStrokes]
  | 4 => [d.framer.framesBuilt, d.framer.recordsFramed, d.framer.deferredFlushes]
  | _ => []

/-- The number of items of a group: up to four counters each (R162). -/
def groupItems (group : BitVec 3) : Nat :=
  match group.toNat with
  | 0 => 2
  | 1 => 1
  | 2 => 5
  | 3 => 1
  | 4 => 1
  | _ => 0

def CellReceiver.clearBad (r : CellReceiver) : CellReceiver := { r with lanes := r.lanes.map fun l => { l with badCells := 0 } }

def CellReceiver.clearGaps (r : CellReceiver) : CellReceiver := { r with lanes := r.lanes.map fun l => { l with gaps := 0 } }

def PenTable.clearCounters (p : PenTable) : PenTable := { p with binds := 0, evictions := 0, misses := 0, tableFull := 0 }

def Router.clearCounters (r : Router) : Router :=
  { r with coalescedSegs := 0, droppedSegs := 0, suppressedStrokes := 0, truncatedStrokes := 0 }

def ShareFramer.clearCounters (f : ShareFramer) : ShareFramer :=
  { f with framesBuilt := 0, recordsFramed := 0, deferredFlushes := 0 }

/-- The blocked counters of the zones that an item carries, at 0 (R163). -/
def Bank.clearItem (item : Nat) (b : Bank) : Bank :=
  { b with blocked := b.blocked.mapFinIdx fun i c _ => if i / 4 = item then 0 else c }

/-- The clear of one item's counters, both banks for the ZONE group (R163). -/
def Device.clearItem (group : BitVec 3) (item : Nat) (d : Device) : Device :=
  match group.toNat with
  | 0 => { d with receiver := if item = 0 then d.receiver.clearBad else if item = 1 then d.receiver.clearGaps else d.receiver }
  | 1 => { d with pens := d.pens.clearCounters }
  | 2 => { d with zones := { d.zones with bankA := d.zones.bankA.clearItem item, bankB := d.zones.bankB.clearItem item } }
  | 3 => { d with router := d.router.clearCounters }
  | 4 => { d with framer := d.framer.clearCounters }
  | _ => d

/-! ## Item payloads (Figure 11-6) -/

def Device.admissionPayload (d : Device) (n : Nat) : List Byte :=
  let e := (d.pens.admission[n]?).getD AdmissionEntry.reset
  [byteNat n, byteBool e.enable] ++ bytes24 e.matchValue ++ bytes24 e.mask ++ [attributes e.role e.group e.colour, lowByte e.profile]

def Device.profilePayload (d : Device) (n : Nat) : List Byte :=
  [byteNat n] ++ (profileBlock ((d.pens.profiles[n]?).getD Config.defaultProfile)).toList

def Device.curvePayload (d : Device) (n : Nat) : List Byte :=
  [byteNat n] ++ ((d.pens.curves[n]?).getD Config.defaultKnots).toList

def Device.slotPayload (d : Device) (part : Byte) (n : Nat) : List Byte :=
  let p := (d.pens.slots[n]?).getD PenSlot.reset
  let c := (d.contacts[n]?).getD Contact.reset
  [byteNat n, part] ++
    match part.toNat with
    | 0 =>
      [byteBool p.enabled, byteNat (bindingNo p.binding)] ++ bytes24 p.transducer ++
        [byteNat p.lane.val, attributes p.role p.group p.colour, byteNat (contactNo c.state), byteBool p.captureArmed,
          c.shortContacts] ++ bytes32 p.lastSeen
    | 1 => (profileBlock p.params).toList
    | _ =>
      bytes16 (BitVec.ofInt 16 p.offsetX) ++ bytes16 (BitVec.ofInt 16 p.offsetY) ++ [byteBool p.captureArmed] ++
        bytes16 p.targetX ++ bytes16 p.targetY

/-- The bank that a READ ZONE reads: the active one, or the other, which is staging in IDLE (R78). -/
def Device.zoneReadBank (d : Device) (staging : Bool) : BankName := if staging then d.zones.other else d.zones.active

def Device.zonePayload (d : Device) (staging : Bool) (n : Nat) : List Byte :=
  let name := d.zoneReadBank staging
  let b := d.zones.bank name
  let z := (b.zones[n]?).getD Zone.reset
  let rules := if n < 16 then z.rules else b.openArea
  [byteNat n, byteNat (bankNo name)] ++
    (if n < 16 then [byteBool z.enable] ++ bytes16 z.xMin ++ bytes16 z.xMax ++ bytes16 z.yMin ++ bytes16 z.yMax
      else List.replicate 9 0) ++
    [steeringByte rules.steering, ruleByte rules, rules.widthCap] ++ bytes16 ((b.blocked[n]?).getD 0)

/-- The flag bits of a stroke context: open bit 0, end bit 1, lane gap bit 2, continued bit 3. -/
def contextBits (k : StrokeContext) : Byte :=
  0#4 ++ BitVec.ofBool k.continued ++ BitVec.ofBool k.laneGap ++ BitVec.ofNat 1 (penEndNo k.penEnd) ++ BitVec.ofBool k.isOpen

def Device.strokePayload (d : Device) (part : Byte) (n : Nat) : List Byte :=
  let k := (d.strokes.contexts[n]?).getD StrokeContext.closed
  let m := (d.strokes.summaries[n]?).getD Summary.reset
  [byteNat n, part] ++
    match part.toNat with
    | 0 =>
      [contextBits k] ++ bytes16 k.id ++
        [attributes k.role k.group k.colour, byteNat k.zone.val, k.generation, lowByte (steeringBits k.steering), k.widthCap] ++
        bytes32 k.openTime ++ bytes16 k.sequence ++ bytes16 k.count ++ bytes16 k.lastX ++ bytes16 k.lastY ++ [k.lastWidth]
    | _ =>
      bytes16 m.id ++ [byteNat (reasonNo m.reason)] ++ bytes16 m.count ++
        [byteNat (penEndNo m.penEnd), byteNat m.zone.val, m.generation] ++ bytes32 m.openTime ++ bytes32 m.closeTime ++
        [summaryFlagsByte m.flags]

def Device.countersPayload (d : Device) (group : BitVec 3) (item : Nat) : List Byte :=
  let c := ((d.groupCounters group).drop (4 * item)).take 4
  [lowByte group, byteNat item, byteNat (4 * item), byteNat c.length] ++ ((c ++ List.replicate 4 0).take 4).flatMap bytes16 ++
    [if group = 2 then byteNat (bankNo d.zones.active) else 0]

/-- The command code of a range read (Figure 11-3). -/
def ReadTarget.code : ReadTarget → Byte
  | .admission => 0x21
  | .profile => 0x23
  | .curve => 0x25
  | .slot _ => 0x26
  | .zone _ => 0x33
  | .stroke _ => 0x40
  | .counters _ _ => 0x11

/-- The payload of one item as it stands (R157, step 2). -/
def Device.itemPayload (d : Device) (t : ReadTarget) (n : Nat) : List Byte :=
  match t with
  | .admission => d.admissionPayload n
  | .profile => d.profilePayload n
  | .curve => d.curvePayload n
  | .slot part => d.slotPayload part n
  | .zone staging => d.zonePayload staging n
  | .stroke part => d.strokePayload part n
  | .counters group _ => d.countersPayload group n

/-! ## The running of a read -/

def Device.setReading (r : Option RangeRead) (d : Device) : Device := { d with responder := { d.responder with reading := r } }

/-- The clear that READ COUNTERS asks for, with the item's forming (R163). -/
def Device.clearRead (t : ReadTarget) (n : Nat) (d : Device) : Device :=
  match t with
  | .counters group true => d.clearItem group n
  | _ => d

/-- One item's reply formed: the item as it stands, then the next item or IDLE. A read of the staging bank that meets RETIRING is
answered with BUSY and ends (R78, R157). -/
def Device.readItem (r : RangeRead) (d : Device) : Device :=
  if r.target = .zone true ∧ d.zones.apply = .retiring then (d.refuse r.tag 0x33 .busy).setReading none
  else
    let d := (d.reply r.tag r.target.code .done (d.itemPayload r.target r.next)).clearRead r.target r.next
    d.setReading (if r.next < r.last then some { r with next := r.next + 1 } else none)

/-- Items formed one after another while the reply queue has room (R157, step 2). -/
def Device.readBurst : Nat → Device → Device
  | 0, d => d
  | n + 1, d =>
    match d.responder.reading with
    | none => d
    | some r => if d.replyRoom then Device.readBurst n (d.readItem r) else d

/-- A range read that passed its checks, at its taking (R157). -/
def Device.startRead (r : RangeRead) (d : Device) : Device := (d.setReading (some r)).readBurst (r.last + 1 - r.next)

/-- The next item of the read in hand, once the reply queue has room (R157, step 3). -/
def Device.nextItem (d : Device) : Device :=
  match d.responder.reading with
  | none => d
  | some r => if d.replyRoom then d.readItem r else d

/-! ## The commands that start one -/

/-- A range read by its bounds, or its refusal with RANGE (R28). -/
def Device.tableRead (tag : Word16) (target : ReadTarget) (first last : Byte) (limit : Nat) (d : Device) : Device :=
  if rangeWithin first last limit then d.startRead ⟨tag, target, first.toNat, last.toNat⟩ else d.refuse tag target.code .range

/-- READ ADMISSION (R28). -/
def runReadAdmission (tag : Word16) (first last : Byte) (d : Device) : Device := d.tableRead tag .admission first last 7

/-- READ PROFILE (R28). -/
def runReadProfile (tag : Word16) (first last : Byte) (d : Device) : Device := d.tableRead tag .profile first last 3

/-- READ CURVE (R28). -/
def runReadCurve (tag : Word16) (first last : Byte) (d : Device) : Device := d.tableRead tag .curve first last 3

/-- READ SLOT (R31): a part above 2 is refused with RANGE. -/
def runReadSlot (tag : Word16) (first last part : Byte) (d : Device) : Device :=
  if 2 < part.toNat then d.refuse tag 0x26 .range else d.tableRead tag (.slot part) first last 11

/-- READ STROKE (R101): a part above 1 is refused with RANGE. -/
def runReadStroke (tag : Word16) (first last part : Byte) (d : Device) : Device :=
  if 1 < part.toNat then d.refuse tag 0x40 .range else d.tableRead tag (.stroke part) first last 11

/-- READ ZONE (R78): a selector of 2 or 3 is refused with RANGE, the staging bank while RETIRING with BUSY. -/
def runReadZone (tag : Word16) (selector : BitVec 2) (first last : Byte) (d : Device) : Device :=
  if 1 < selector.toNat || !rangeWithin first last 16 then d.refuse tag 0x33 .range
  else if selector = 1 ∧ d.zones.apply = .retiring then d.refuse tag 0x33 .busy
  else d.startRead ⟨tag, .zone (selector = 1), first.toNat, last.toNat⟩

/-- READ COUNTERS (R162): a group above 4 is refused with RANGE. -/
def runReadCounters (tag : Word16) (group : BitVec 3) (clear : Bool) (d : Device) : Device :=
  if 4 < group.toNat then d.refuse tag 0x11 .range
  else d.startRead ⟨tag, .counters group clear, 0, groupItems group - 1⟩

end Sys2Proof.Machine
end

