-- ==== Sys2Proof/Machine/SystemCommands.lean ====
section
/-! DEFINITION. The commands of the Management Responder and of the Timebase (Chapters 9 and 1): READ STATUS, CLEAR COUNTERS,
RESTART, READ TIME, SET TIME, and the answer to an undefined code. Each definition is the execution of R155: checks, effect, reply. -/

namespace Sys2Proof.Machine

/-- A code that names no command is answered with UNKNOWN (R159). -/
def runUnknownCommand (code : Byte) (tag : Word16) (d : Device) : Device := d.refuse tag code .unknown

/-- The payload of READ STATUS (R161). -/
def Device.statusPayload (d : Device) : List Byte :=
  [byteNat (linkNo d.receiver.link), byteNat d.responder.queue.length, byteBool d.responder.overrun,
    byteNat d.router.overlayQueue.length, byteNat d.router.overlayReservations, byteNat d.router.shareQueue.length,
    byteNat d.router.shareReservations, byteNat (d.zones.bankA.bindings + d.zones.bankB.bindings), byteNat d.boundSlots,
    byteNat d.notices.entries.length]

/-- READ STATUS: the reply shows the command overrun flag, which is then cleared (R161). -/
def runReadStatus (tag : Word16) (d : Device) : Device :=
  let d := d.reply tag 0x10 .done d.statusPayload
  { d with responder := { d.responder with overrun := false } }

/-- Every counter of the five groups at 0, the blocked counters of both banks included (R164). -/
def Device.clearCounters (d : Device) : Device :=
  { d with
    receiver := d.receiver.clearBad.clearGaps
    pens := d.pens.clearCounters
    zones :=
      { d.zones with
        bankA := { d.zones.bankA with blocked := Vector.replicate 17 0 }
        bankB := { d.zones.bankB with blocked := Vector.replicate 17 0 } }
    router := d.router.clearCounters
    framer := d.framer.clearCounters }

/-- CLEAR COUNTERS (R164). -/
def runClearCounters (tag : Word16) (d : Device) : Device := d.clearCounters.reply tag 0x12 .done []

/-- The Cell Receiver at RESTART (Figure 1-3). -/
def CellReceiver.restarted (r : CellReceiver) : CellReceiver := { r with lanes := Vector.replicate 4 LaneState.reset }

/-- A slot at RESTART: FREE, its enable, role, group, colour and parameter copy kept (Figure 2-4). -/
def PenSlot.restarted (p : PenSlot) : PenSlot :=
  { PenSlot.reset with enabled := p.enabled, role := p.role, group := p.group, colour := p.colour, params := p.params }

/-- The Pen Table at RESTART (Figure 2-4). -/
def PenTable.restarted (p : PenTable) : PenTable := { p.clearCounters with slots := p.slots.map PenSlot.restarted }

/-- The Zone Table at RESTART: a retiring completed at once, binding counts and blocked counters at 0 (Figure 4-4, R80). -/
def ZoneTable.restarted (z : ZoneTable) : ZoneTable :=
  let z := if z.apply = .retiring then z.completeRetiring else z
  { z with
    bankA := { z.bankA with blocked := Vector.replicate 17 0, bindings := 0 }
    bankB := { z.bankB with blocked := Vector.replicate 17 0, bindings := 0 } }

/-- The Segment Router at RESTART: an overlay cell in transmission completes, its record the one entry of the queue (R131). -/
def Router.restarted (r : Router) : Router :=
  { Router.reset with
    overlayQueue := if r.overlayTx.isSome then r.overlayQueue.take 1 else []
    overlayTx := r.overlayTx }

/-- A frame buffer at RESTART: a SENDING frame completes first (Figure 8-2). -/
def FrameBuffer.restarted : FrameBuffer → FrameBuffer
  | .sending f => .sending f
  | _ => .empty

/-- The Share Framer at RESTART: identity and pacing kept (Figure 8-2). -/
def ShareFramer.restarted (f : ShareFramer) : ShareFramer :=
  { ShareFramer.reset with
    written := f.written, classroom := f.classroom, board := f.board, period := f.period, fine := f.fine,
    buffers := f.buffers.map FrameBuffer.restarted }

/-- The egress arbiter at RESTART: a unit in transmission completes, every other reply is discarded (Figure 8-2). -/
def EgressArbiter.restarted (a : EgressArbiter) : EgressArbiter :=
  match a.inTransmission with
  | some (.reply _) => { a with replies := a.replies.take 1 }
  | _ => { a with replies := [] }

/-- The Notice Queue at RESTART: levels and threshold kept (Figure 10-2). -/
def NoticeQueue.restarted (q : NoticeQueue) : NoticeQueue :=
  { q with entries := [], overrun := false, line := .released, arrivals := 0 }

/-- Every block at RESTART (Figure 9-6). -/
def Device.restarted (d : Device) : Device :=
  { receiver := d.receiver.restarted, clock := d.clock, pens := d.pens.restarted,
    contacts := Vector.replicate 12 Contact.reset, zones := d.zones.restarted, filters := Vector.replicate 12 ⟨0, 0⟩,
    strokes := StrokeAssembler.reset, router := d.router.restarted, framer := d.framer.restarted, arbiter := d.arbiter.restarted,
    responder := Responder.reset, notices := d.notices.restarted }

/-- RESTART: the clearing, then the reply with the commands and the open strokes discarded (R165, R166). -/
def runRestart (tag : Word16) (d : Device) : Device :=
  d.restarted.reply tag 0x13 .done [byteNat d.responder.queue.length, byteNat d.openSlots.length]

/-- READ TIME (R14). -/
def runReadTime (tag : Word16) (d : Device) : Device := d.reply tag 0x14 .done (bytes32 d.clock)

/-- The last-seen time of a BOUND slot moved with the clock, so that its age is kept (R15). -/
def PenSlot.shiftSeen (by' : Word32) (p : PenSlot) : PenSlot :=
  if p.binding = .bound then { p with lastSeen := p.lastSeen + by' } else p

/-- SET TIME: the clock takes the value, the last-seen times of bound slots the difference; the reply carries the old clock (R15). -/
def runSetTime (tag : Word16) (value : Word32) (d : Device) : Device :=
  let set : Device :=
    { d with clock := value, pens := { d.pens with slots := d.pens.slots.map (PenSlot.shiftSeen (value - d.clock)) } }
  set.reply tag 0x15 .done (bytes32 d.clock)

end Sys2Proof.Machine
end

