-- ==== Sys2Proof/Machine/NoticeCommands.lean ====
section
/-! DEFINITION. The commands of the Notice Queue (Chapter 10), and the end of the notice line's pulse. -/

namespace Sys2Proof.Machine

/-- The payload of FETCH: the head entry, or zeros (R173). -/
def NoticeQueue.fetchPayload (q : NoticeQueue) : List Byte :=
  (match q.entries with
    | [] => [1, 0, 0, 0, 0]
    | e :: _ => [0, byteNat (kindNo e.kind).val, byteNat (subjectNo e.subject), lowByte e.level, e.repeats]) ++
    [byteNat q.entries.length, byteBool q.overrun]

/-- FETCH (R173). -/
def runFetch (tag : Word16) (d : Device) : Device := d.reply tag 0x60 .done d.notices.fetchPayload

/-- An accepted ACK: the entry removed, the overrun flag cleared, and a pulse where the line condition is left true (R174, R176). -/
def NoticeQueue.acked (kind : NoticeKind) (subject : Subject) (q : NoticeQueue) : NoticeQueue :=
  let q : NoticeQueue := { q with entries := q.entries.filter fun e => !e.names kind subject, overrun := false }
  { q with line := if q.condition then .pulsing else .released }

/-- ACK (R174). -/
def runAck (tag : Word16) (kind : BitVec 4) (subject : BitVec 5) (d : Device) : Device :=
  match kindOf kind, subjectOf subject with
  | some k, some s =>
    match d.notices.entries.find? (NoticeEntry.names k s) with
    | none => d.refuse tag 0x61 .state
    | some e =>
      let q := d.notices.acked k s
      Device.reply tag 0x61 .done
        [byteNat (kindNo k).val, byteNat (subjectNo s), e.repeats, byteNat q.entries.length, byteBool d.notices.overrun]
        { d with notices := q }
  | _, _ => d.refuse tag 0x61 .range

/-- SET LEVEL: standing entries keep their levels (R172). -/
def runSetLevel (tag : Word16) (kind : BitVec 4) (level : BitVec 3) (d : Device) : Device :=
  match kindOf kind with
  | none => d.refuse tag 0x62 .range
  | some k =>
    Device.reply tag 0x62 .done [byteNat (kindNo k).val, lowByte level, lowByte (d.notices.levelOf k)]
      { d with notices := { d.notices with levels := d.notices.levels.set (kindNo k) level } }

/-- SET LINE THRESHOLD: a threshold of 0 is refused with RANGE (R177). -/
def runSetLineThreshold (tag : Word16) (threshold : BitVec 3) (d : Device) : Device :=
  if threshold = 0 then d.refuse tag 0x63 .range
  else
    let q := NoticeQueue.judged { d.notices with threshold := threshold }
    Device.reply tag 0x63 .done [lowByte threshold, byteNat (lineNo q.line)] { d with notices := q }

/-- The end of a pulse: the condition judged afresh (R176). -/
def NoticeQueue.pulseEnds (q : NoticeQueue) : NoticeQueue :=
  match q.line with
  | .pulsing => { q with line := if q.condition then .asserted else .released }
  | _ => q

end Sys2Proof.Machine
end

