-- ==== Sys2Proof/Machine/PenCommands.lean ====
section
/-! DEFINITION. The commands of the Pen Table (sections 2.5.1 to 2.5.4): the tables, the slots, offset capture and the global
settings. -/

namespace Sys2Proof.Machine

/-- WRITE ADMISSION: an index above 7 or a role of 3 is refused with RANGE (R27). -/
def runWriteAdmission (tag : Word16) (index : BitVec 4) (enable : Bool) (matchValue mask : Word24) (attr : AttributeBits)
    (profile : BitVec 2) (d : Device) : Device :=
  match entryOf index, roleOf attr.role with
  | some i, some role =>
    let e : AdmissionEntry := ⟨enable, matchValue, mask, role, index4 attr.group, attr.colour, profile⟩
    Device.reply tag 0x20 .done [] { d with pens := { d.pens with admission := d.pens.admission.set i e } }
  | _, _ => d.refuse tag 0x20 .range

/-- WRITE PROFILE: all nine fields after their clamps (R29). -/
def runWriteProfile (tag : Word16) (index : BitVec 2) (block : Profile) (d : Device) : Device :=
  Device.reply tag 0x22 .done []
    { d with pens := { d.pens with profiles := d.pens.profiles.set (index4 index) (clampProfile block) } }

/-- WRITE CURVE: nine knots, a knot of 0 stored as 1 (R30). -/
def runWriteCurve (tag : Word16) (index : BitVec 2) (knots : Knots) (d : Device) : Device :=
  Device.reply tag 0x24 .done []
    { d with pens := { d.pens with curves := d.pens.curves.set (index4 index) (clampKnots knots) } }

/-- WRITE SLOT PARAMETERS: a slot above 11 or a role of 3 is refused with RANGE (R26, R32). -/
def runWriteSlotParameters (tag : Word16) (slot : BitVec 4) (block : Profile) (attr : AttributeBits) (d : Device) : Device :=
  match slotOf slot, roleOf attr.role with
  | some i, some role =>
    let p := { d.slot i with params := clampProfile block, role := role, group := index4 attr.group, colour := attr.colour }
    (d.setSlot i p).reply tag 0x27 .done []
  | _, _ => d.refuse tag 0x27 .range

/-- SET OFFSET: two signed values clamped to -512 to +511 and reported as stored (R33). -/
def runSetOffset (tag : Word16) (slot : BitVec 4) (x y : Word16) (d : Device) : Device :=
  match slotOf slot with
  | none => d.refuse tag 0x28 .range
  | some i =>
    let ox := clampOffset x.toInt
    let oy := clampOffset y.toInt
    (d.setSlot i { d.slot i with offsetX := ox, offsetY := oy }).reply tag 0x28 .done
      (bytes16 (BitVec.ofInt 16 ox) ++ bytes16 (BitVec.ofInt 16 oy))

/-- A slot's stroke closed with FORCED, where one is open, and the slot freed (R34, R35). -/
def Device.forceFree (i : Slot) (d : Device) : Device := (d.closeStroke i .forced d.clock).freeSlot i

/-- A slot disabled: freed first where it is BOUND (R34). -/
def Device.disableSlot (i : Slot) (d : Device) : Device :=
  let d := if (d.slot i).binding = .bound then d.forceFree i else d
  d.setSlot i { d.slot i with enabled := false }

/-- SET SLOT ENABLE (R34). -/
def runSetSlotEnable (tag : Word16) (slot : BitVec 4) (enable : Bool) (d : Device) : Device :=
  match slotOf slot with
  | none => d.refuse tag 0x29 .range
  | some i =>
    let d := if enable then d.setSlot i { d.slot i with enabled := true } else d.disableSlot i
    d.reply tag 0x29 .done []

/-- A command on a BOUND slot: RANGE for no slot, STATE for a FREE one (R26, R35 to R37). -/
def Device.onBound (tag : Word16) (code : Byte) (slot : BitVec 4) (f : Slot → Device → Device) (d : Device) : Device :=
  match slotOf slot with
  | none => d.refuse tag code .range
  | some i => if (d.slot i).binding = .free then d.refuse tag code .state else (f i d).reply tag code .done []

/-- UNBIND (R35). -/
def runUnbind (tag : Word16) (slot : BitVec 4) (d : Device) : Device := d.onBound tag 0x2A slot Device.forceFree

/-- FORCE LEAVE: a LEAVE whose open stroke closes with FORCED (R36). -/
def runForceLeave (tag : Word16) (slot : BitVec 4) (d : Device) : Device :=
  d.onBound tag 0x2B slot fun i d => d.dropRange i .forced

/-- CAPTURE OFFSET: the target stored and capture armed (R37). -/
def runCaptureOffset (tag : Word16) (slot : BitVec 4) (x y : Word16) (d : Device) : Device :=
  d.onBound tag 0x2C slot fun i d => d.setSlot i { d.slot i with targetX := x, targetY := y, captureArmed := true }

/-- Capture disarmed; a capture wait under way ends without changing the offset (R37). -/
def Device.cancelCaptureAt (i : Slot) (d : Device) : Device :=
  if (d.slot i).captureArmed then
    let d := d.setSlot i { d.slot i with captureArmed := false }
    if (d.contact i).state = .capture then d.setContact i { d.contact i with wait := .ended } else d
  else d

/-- CANCEL CAPTURE (R37). -/
def runCancelCapture (tag : Word16) (slot : BitVec 4) (d : Device) : Device := d.onBound tag 0x2D slot Device.cancelCaptureAt

/-- WRITE SETTINGS: a presence count of 0 is stored as 1 (R38). -/
def runWriteSettings (tag : Word16) (presence : Byte) (guest : Bool) (d : Device) : Device :=
  Device.reply tag 0x2E .done []
    { d with pens := { d.pens with presenceCount := atLeastOne presence, guestAdmission := guest } }

/-- READ SETTINGS (R38). -/
def runReadSettings (tag : Word16) (d : Device) : Device :=
  d.reply tag 0x2F .done [d.pens.presenceCount, byteBool d.pens.guestAdmission]

end Sys2Proof.Machine
end

