-- ==== Sys2Proof/Machine/ShareCommands.lean ====
section
/-! DEFINITION. The commands of the Share Framer (Chapter 8). -/

namespace Sys2Proof.Machine

/-- WRITE IDENTITY: once, until hard reset; the WRITTEN refusal carries the stored identity (R133). -/
def runWriteIdentity (tag : Word16) (classroom : Word16) (board : Byte) (d : Device) : Device :=
  if d.framer.written then d.reply tag 0x50 .written (bytes16 d.framer.classroom ++ [d.framer.board])
  else
    Device.reply tag 0x50 .done (bytes16 classroom ++ [board])
      { d with framer := { d.framer with classroom := classroom, board := board, written := true } }

/-- SHARE ENABLE (R134): BUSY while DRAINING, STATE before the identity is written (DEDUCED, log entry 11, where both hold). -/
def runShareEnable (tag : Word16) (d : Device) : Device :=
  match d.framer.state with
  | .draining => d.refuse tag 0x51 .busy
  | .enabled => d.reply tag 0x51 .done [byteNat (shareNo .enabled)]
  | .disabled =>
    if d.framer.written then
      Device.reply tag 0x51 .done [byteNat (shareNo .enabled)]
        { d with framer := ShareFramer.beginPeriod 0 { d.framer with state := .enabled, pendingFlush := false } }
    else d.refuse tag 0x51 .state

/-- The number of share-live strokes, the close count of a disable (R135, step 2). -/
def Device.shareLiveCount (d : Device) : Nat := allSlots.countP d.shareLiveAt

/-- A share disable in ENABLED, in the steps of R135. -/
def Device.disableShare (d : Device) : Device :=
  let f := ShareFramer.stopPacer { d.framer with state := .draining, pendingFlush := false }
  Device.drain (Device.shareOff { d with framer := f })

/-- SHARE DISABLE (R135). -/
def runShareDisable (tag : Word16) (d : Device) : Device :=
  match d.framer.state with
  | .enabled =>
    let e := d.disableShare
    e.reply tag 0x52 .done [byteNat d.shareLiveCount, byteNat (shareNo e.framer.state)]
  | _ => d.reply tag 0x52 .done [0, byteNat (shareNo d.framer.state)]

/-- SET PACING: read by the next period that begins (R144). -/
def runSetPacing (tag : Word16) (period : Byte) (fine : BitVec 4) (d : Device) : Device :=
  let p := atLeastOne period
  Device.reply tag 0x53 .done [p, lowByte fine] { d with framer := { d.framer with period := p, fine := fine } }

/-- FLUSH: in ENABLED a flush trigger, then the period restarted at cycle position 0 (R145). -/
def runFlush (tag : Word16) (d : Device) : Device :=
  match d.framer.state with
  | .enabled =>
    let e := d.flushTrigger
    let e : Device := { e with framer := e.framer.beginPeriod 0 }
    e.reply tag 0x54 .done [byteNat d.flushRecords, byteBool e.framer.pendingFlush]
  | _ => d.reply tag 0x54 .done [0, 0]

/-- The record count of the frame that a buffer holds, 0 when EMPTY (R150). -/
def FrameBuffer.count : FrameBuffer → Nat
  | .empty => 0
  | .held f => f.records.length
  | .sending f => f.records.length

/-- READ SHARE (R150). -/
def runReadShare (tag : Word16) (d : Device) : Device :=
  let f := d.framer
  d.reply tag 0x55 .done
    ([byteNat (shareNo f.state), byteBool f.written] ++ bytes16 f.classroom ++ [f.board, f.period, lowByte f.fine, lowByte f.cycle] ++
      bytes16 f.nextSequence ++
      [byteBool f.pendingFlush, byteNat (bufferNo f.buffers[0]), byteNat f.buffers[0].count, byteNat (bufferNo f.buffers[1]),
        byteNat f.buffers[1].count])

end Sys2Proof.Machine
end

