-- ==== Sys2Proof/Machine/ZoneCommands.lean ====
section
/-! DEFINITION. The commands of the Zone Table (sections 4.5 and 4.6), their refusals in the order of Figure 4-3. -/

namespace Sys2Proof.Machine

/-- A zone write that passed its RANGE check: LOCKED, then BUSY, then the change to the staging bank (R68). -/
def Device.writeStaging (tag : Word16) (code : Byte) (f : Bank → Bank) (d : Device) : Device :=
  if d.zones.locked then d.refuse tag code .locked
  else if d.zones.apply = .retiring then d.refuse tag code .busy
  else
    Device.reply tag code .done [byteNat (bankNo d.zones.other)]
      { d with zones := d.zones.setBank d.zones.other (f (d.zones.bank d.zones.other)) }

/-- WRITE ZONE RECT (R75). -/
def runWriteZoneRect (tag : Word16) (zone : BitVec 5) (xMin xMax yMin yMax : Word16) (d : Device) : Device :=
  match rectZoneOf zone with
  | none => d.refuse tag 0x30 .range
  | some i =>
    d.writeStaging tag 0x30 fun b =>
      { b with zones := b.zones.set i { b.zones[i] with xMin := xMin, xMax := xMax, yMin := yMin, yMax := yMax } }

/-- WRITE ZONE ATTRIBUTES (R76). -/
def runWriteZoneAttributes (tag : Word16) (zone : BitVec 5) (enable : Bool) (rules : ZoneRules) (d : Device) : Device :=
  match rectZoneOf zone with
  | none => d.refuse tag 0x31 .range
  | some i =>
    d.writeStaging tag 0x31 fun b => { b with zones := b.zones.set i { b.zones[i] with enable := enable, rules := rules } }

/-- WRITE OPEN AREA (R77). -/
def runWriteOpenArea (tag : Word16) (rules : ZoneRules) (d : Device) : Device :=
  d.writeStaging tag 0x32 fun b => { b with openArea := rules }

/-- The exchange of the banks: with no stroke bound to the former active bank it is staging at once, else it retires (R69). -/
def ZoneTable.applied (z : ZoneTable) : ZoneTable :=
  let former := z.activeBank
  let z := { z with active := z.other, generation := z.generation + 1 }
  if former.bindings = 0 then z.setBank z.other z.stagingCopy else { z with apply := .retiring }

/-- APPLY (R69). -/
def runApply (tag : Word16) (d : Device) : Device :=
  if d.zones.locked then d.refuse tag 0x34 .locked
  else if d.zones.apply = .retiring then d.refuse tag 0x34 .busy
  else
    let z := d.zones.applied
    Device.reply tag 0x34 .done [z.generation, byteNat (applyNo z.apply)] { d with zones := z }

/-- The slots whose open stroke is bound to the retiring bank (R73). -/
def Device.retiringSlots (d : Device) : List Slot :=
  d.openSlots.filter fun i => d.zones.bankOfGeneration (d.context i).generation = d.zones.other

/-- RETIRE NOW: in RETIRING every such stroke closes with RETIRED, in ascending order of slot (R73). -/
def runRetireNow (tag : Word16) (d : Device) : Device :=
  if d.zones.locked then d.refuse tag 0x35 .locked
  else if d.zones.apply = .idle then d.reply tag 0x35 .done [0]
  else (d.retiringSlots.foldl Device.retireStroke d).reply tag 0x35 .done [byteNat d.retiringSlots.length]

/-- LOCK LAYOUT (R74). -/
def runLockLayout (tag : Word16) (d : Device) : Device :=
  Device.reply tag 0x36 .done [] { d with zones := { d.zones with locked := true } }

/-- READ LAYOUT: the retiring bank's count is 0 in IDLE (R79). -/
def runReadLayout (tag : Word16) (d : Device) : Device :=
  let z := d.zones
  d.reply tag 0x37 .done
    [byteNat (bankNo z.active), z.generation, byteNat (applyNo z.apply), byteBool z.locked, byteNat z.activeBank.bindings,
      if z.apply = .retiring then byteNat (z.bank z.other).bindings else 0]

end Sys2Proof.Machine
end

