-- ==== Sys2Proof/Machine/Responder.lean ====
section
/-! DEFINITION. The Management Responder's command path (sections 9.1 and 9.2): arrival and overrun, the taking of commands in the
order of their arrival, and their execution. -/

namespace Sys2Proof.Machine

/-- The execution of a step that is a command of the host; the events of the device are none and change nothing here (R155). -/
def runCommand (i : Instr) (d : Device) : Device :=
  match i with
  | .hardReset _ => d
  | .linkValidFalls => d
  | .linkValidRises => d
  | .millisecondTick => d
  | .sample _ => d
  | .proximity _ => d
  | .commandCell _ => d
  | .invalidCell _ => d
  | .presenceExpiry _ => d
  | .liftHoldExpiry _ => d
  | .pacerExpiry => d
  | .noticePulseEnd => d
  | .overlayTxBegin _ => d
  | .overlayTxComplete => d
  | .shareEgressBegin _ => d
  | .replyTxComplete => d
  | .frameTxComplete => d
  | .rangeReadNextItem => d
  | .unknownCommand code t => runUnknownCommand code t d
  | .readStatus t => runReadStatus t d
  | .readCounters t g c => runReadCounters t g c d
  | .clearCounters t => runClearCounters t d
  | .restart t => runRestart t d
  | .readTime t => runReadTime t d
  | .setTime t v => runSetTime t v d
  | .writeAdmission t i e m k a p => runWriteAdmission t i e m k a p d
  | .readAdmission t a b => runReadAdmission t a b d
  | .writeProfile t i p => runWriteProfile t i p d
  | .readProfile t a b => runReadProfile t a b d
  | .writeCurve t i k => runWriteCurve t i k d
  | .readCurve t a b => runReadCurve t a b d
  | .readSlot t a b p => runReadSlot t a b p d
  | .writeSlotParameters t i p a => runWriteSlotParameters t i p a d
  | .setOffset t i x y => runSetOffset t i x y d
  | .setSlotEnable t i e => runSetSlotEnable t i e d
  | .unbind t i => runUnbind t i d
  | .forceLeave t i => runForceLeave t i d
  | .captureOffset t i x y => runCaptureOffset t i x y d
  | .cancelCapture t i => runCancelCapture t i d
  | .writeSettings t n g => runWriteSettings t n g d
  | .readSettings t => runReadSettings t d
  | .writeZoneRect t z a b c e => runWriteZoneRect t z a b c e d
  | .writeZoneAttributes t z e r => runWriteZoneAttributes t z e r d
  | .writeOpenArea t r => runWriteOpenArea t r d
  | .readZone t s a b => runReadZone t s a b d
  | .apply t => runApply t d
  | .retireNow t => runRetireNow t d
  | .lockLayout t => runLockLayout t d
  | .readLayout t => runReadLayout t d
  | .readStroke t a b p => runReadStroke t a b p d
  | .writeIdentity t c b => runWriteIdentity t c b d
  | .shareEnable t => runShareEnable t d
  | .shareDisable t => runShareDisable t d
  | .setPacing t p f => runSetPacing t p f d
  | .flush t => runFlush t d
  | .readShare t => runReadShare t d
  | .fetch t => runFetch t d
  | .ack t k s => runAck t k s d
  | .setLevel t k l => runSetLevel t k l d
  | .setLineThreshold t l => runSetLineThreshold t l d

/-- Whether the responder may take a command, the queue left aside: IDLE, and room in the reply queue (R154). -/
def Device.mayTake (d : Device) : Bool := d.responder.reading.isNone && d.replyRoom

/-- Commands taken and executed, oldest first, while the responder may take one (R154, R155); at most `n`. -/
def Device.takeCommands : Nat → Device → Device
  | 0, d => d
  | n + 1, d =>
    match d.responder.queue with
    | [] => d
    | c :: rest =>
      if d.mayTake then
        Device.takeCommands n (runCommand (decodeCommand c) { d with responder := { d.responder with queue := rest } })
      else d

/-- The taking test, made where one of its conditions may have come to hold (R154). -/
def Device.takingTest (d : Device) : Device := d.takeCommands d.responder.queue.length

/-- A command at the command queue: it enters, or at 8 waiting it is dropped with the overrun flag and COMMAND_OVERRUN; then the
taking test (R153, R154). -/
def Device.commandArrives (c : Command) (d : Device) : Device :=
  if d.responder.queue.length < Config.commandCapacity then
    Device.takingTest { d with responder := { d.responder with queue := d.responder.queue ++ [c] } }
  else Device.post .commandOverrun none { d with responder := { d.responder with overrun := true } }

/-- A command step: executed at once where the responder may take it and no older command waits; otherwise its command takes its
place at the command queue (R153 to R155). That a command row stands at the responder, whatever the link state, is a DESIGN CHOICE
(log entry 2). -/
def Device.commandStep (i : Instr) (run : Device → Device) (d : Device) : Device :=
  if d.mayTake && d.responder.queue.isEmpty then run d
  else
    match encodeCommand i with
    | some c => d.commandArrives c
    | none => d

end Sys2Proof.Machine
end

