-- ==== Sys2Proof/Machine/CommandSteps.lean ====
section
/-! DEFINITION. The meanings of the steps that are commands of the host: each is the command at the Management Responder, executed at
once where the responder may take it and otherwise taking its place at the command queue (R153 to R155). -/

namespace Sys2Proof.Machine

/-- UNKNOWN_COMMAND (R159). A code that does name a command is that command, its operands 0 (DESIGN CHOICE, log entry 7). -/
def execUnknownCommand (code : Byte) (tag : Word16) (s : State) : Host.Outcome State Fault Refusal :=
  s.onDevice (Device.commandStep (.unknownCommand code tag) (runCommand (decodeCommand ⟨code, tag, operandBytes []⟩)))

/-- READ STATUS (R161). -/
def execReadStatus (tag : Word16) (s : State) : Host.Outcome State Fault Refusal :=
  s.onDevice (Device.commandStep (.readStatus tag) (runReadStatus tag))

/-- READ COUNTERS (R162, R163). -/
def execReadCounters (tag : Word16) (group : BitVec 3) (clear : Bool) (s : State) : Host.Outcome State Fault Refusal :=
  s.onDevice (Device.commandStep (.readCounters tag group clear) (runReadCounters tag group clear))

/-- CLEAR COUNTERS (R164). -/
def execClearCounters (tag : Word16) (s : State) : Host.Outcome State Fault Refusal :=
  s.onDevice (Device.commandStep (.clearCounters tag) (runClearCounters tag))

/-- RESTART (R165, R166). -/
def execRestart (tag : Word16) (s : State) : Host.Outcome State Fault Refusal :=
  s.onDevice (Device.commandStep (.restart tag) (runRestart tag))

/-- READ TIME (R14). -/
def execReadTime (tag : Word16) (s : State) : Host.Outcome State Fault Refusal :=
  s.onDevice (Device.commandStep (.readTime tag) (runReadTime tag))

/-- SET TIME (R15). -/
def execSetTime (tag : Word16) (value : Word32) (s : State) : Host.Outcome State Fault Refusal :=
  s.onDevice (Device.commandStep (.setTime tag value) (runSetTime tag value))

/-- WRITE ADMISSION (R27). -/
def execWriteAdmission (tag : Word16) (index : BitVec 4) (enable : Bool)
    (matchValue mask : Word24) (attr : AttributeBits) (profile : BitVec 2) (s : State) : Host.Outcome State Fault Refusal :=
  s.onDevice (Device.commandStep (.writeAdmission tag index enable matchValue mask attr profile)
    (runWriteAdmission tag index enable matchValue mask attr profile))

/-- READ ADMISSION (R28). -/
def execReadAdmission (tag : Word16) (first last : Byte) (s : State) : Host.Outcome State Fault Refusal :=
  s.onDevice (Device.commandStep (.readAdmission tag first last) (runReadAdmission tag first last))

/-- WRITE PROFILE (R29). -/
def execWriteProfile (tag : Word16) (index : BitVec 2) (block : Profile) (s : State) : Host.Outcome State Fault Refusal :=
  s.onDevice (Device.commandStep (.writeProfile tag index block) (runWriteProfile tag index block))

/-- READ PROFILE (R28). -/
def execReadProfile (tag : Word16) (first last : Byte) (s : State) : Host.Outcome State Fault Refusal :=
  s.onDevice (Device.commandStep (.readProfile tag first last) (runReadProfile tag first last))

/-- WRITE CURVE (R30). -/
def execWriteCurve (tag : Word16) (index : BitVec 2) (knots : Knots) (s : State) : Host.Outcome State Fault Refusal :=
  s.onDevice (Device.commandStep (.writeCurve tag index knots) (runWriteCurve tag index knots))

/-- READ CURVE (R28). -/
def execReadCurve (tag : Word16) (first last : Byte) (s : State) : Host.Outcome State Fault Refusal :=
  s.onDevice (Device.commandStep (.readCurve tag first last) (runReadCurve tag first last))

/-- READ SLOT (R31). -/
def execReadSlot (tag : Word16) (first last part : Byte) (s : State) : Host.Outcome State Fault Refusal :=
  s.onDevice (Device.commandStep (.readSlot tag first last part) (runReadSlot tag first last part))

/-- WRITE SLOT PARAMETERS (R32). -/
def execWriteSlotParameters (tag : Word16) (slot : BitVec 4) (block : Profile)
    (attr : AttributeBits) (s : State) : Host.Outcome State Fault Refusal :=
  s.onDevice (Device.commandStep (.writeSlotParameters tag slot block attr) (runWriteSlotParameters tag slot block attr))

/-- SET OFFSET (R33). -/
def execSetOffset (tag : Word16) (slot : BitVec 4) (x y : Word16) (s : State) : Host.Outcome State Fault Refusal :=
  s.onDevice (Device.commandStep (.setOffset tag slot x y) (runSetOffset tag slot x y))

/-- SET SLOT ENABLE (R34). -/
def execSetSlotEnable (tag : Word16) (slot : BitVec 4) (enable : Bool) (s : State) : Host.Outcome State Fault Refusal :=
  s.onDevice (Device.commandStep (.setSlotEnable tag slot enable) (runSetSlotEnable tag slot enable))

/-- UNBIND (R35). -/
def execUnbind (tag : Word16) (slot : BitVec 4) (s : State) : Host.Outcome State Fault Refusal :=
  s.onDevice (Device.commandStep (.unbind tag slot) (runUnbind tag slot))

/-- FORCE LEAVE (R36). -/
def execForceLeave (tag : Word16) (slot : BitVec 4) (s : State) : Host.Outcome State Fault Refusal :=
  s.onDevice (Device.commandStep (.forceLeave tag slot) (runForceLeave tag slot))

/-- CAPTURE OFFSET (R37). -/
def execCaptureOffset (tag : Word16) (slot : BitVec 4) (x y : Word16) (s : State) : Host.Outcome State Fault Refusal :=
  s.onDevice (Device.commandStep (.captureOffset tag slot x y) (runCaptureOffset tag slot x y))

/-- CANCEL CAPTURE (R37). -/
def execCancelCapture (tag : Word16) (slot : BitVec 4) (s : State) : Host.Outcome State Fault Refusal :=
  s.onDevice (Device.commandStep (.cancelCapture tag slot) (runCancelCapture tag slot))

/-- WRITE SETTINGS (R38). -/
def execWriteSettings (tag : Word16) (presence : Byte) (guest : Bool) (s : State) : Host.Outcome State Fault Refusal :=
  s.onDevice (Device.commandStep (.writeSettings tag presence guest) (runWriteSettings tag presence guest))

/-- READ SETTINGS (R38). -/
def execReadSettings (tag : Word16) (s : State) : Host.Outcome State Fault Refusal :=
  s.onDevice (Device.commandStep (.readSettings tag) (runReadSettings tag))

/-- WRITE ZONE RECT (R75). -/
def execWriteZoneRect (tag : Word16) (zone : BitVec 5) (xMin xMax yMin yMax : Word16)
    (s : State) : Host.Outcome State Fault Refusal :=
  s.onDevice (Device.commandStep (.writeZoneRect tag zone xMin xMax yMin yMax) (runWriteZoneRect tag zone xMin xMax yMin yMax))

/-- WRITE ZONE ATTRIBUTES (R76). -/
def execWriteZoneAttributes (tag : Word16) (zone : BitVec 5) (enable : Bool) (rules : ZoneRules)
    (s : State) : Host.Outcome State Fault Refusal :=
  s.onDevice (Device.commandStep (.writeZoneAttributes tag zone enable rules) (runWriteZoneAttributes tag zone enable rules))

/-- WRITE OPEN AREA (R77). -/
def execWriteOpenArea (tag : Word16) (rules : ZoneRules) (s : State) : Host.Outcome State Fault Refusal :=
  s.onDevice (Device.commandStep (.writeOpenArea tag rules) (runWriteOpenArea tag rules))

/-- READ ZONE (R78). -/
def execReadZone (tag : Word16) (selector : BitVec 2) (first last : Byte) (s : State) : Host.Outcome State Fault Refusal :=
  s.onDevice (Device.commandStep (.readZone tag selector first last) (runReadZone tag selector first last))

/-- APPLY (R69). -/
def execApply (tag : Word16) (s : State) : Host.Outcome State Fault Refusal :=
  s.onDevice (Device.commandStep (.apply tag) (runApply tag))

/-- RETIRE NOW (R73). -/
def execRetireNow (tag : Word16) (s : State) : Host.Outcome State Fault Refusal :=
  s.onDevice (Device.commandStep (.retireNow tag) (runRetireNow tag))

/-- LOCK LAYOUT (R74). -/
def execLockLayout (tag : Word16) (s : State) : Host.Outcome State Fault Refusal :=
  s.onDevice (Device.commandStep (.lockLayout tag) (runLockLayout tag))

/-- READ LAYOUT (R79). -/
def execReadLayout (tag : Word16) (s : State) : Host.Outcome State Fault Refusal :=
  s.onDevice (Device.commandStep (.readLayout tag) (runReadLayout tag))

/-- READ STROKE (R101). -/
def execReadStroke (tag : Word16) (first last part : Byte) (s : State) : Host.Outcome State Fault Refusal :=
  s.onDevice (Device.commandStep (.readStroke tag first last part) (runReadStroke tag first last part))

/-- WRITE IDENTITY (R133). -/
def execWriteIdentity (tag : Word16) (classroom : Word16) (board : Byte) (s : State) : Host.Outcome State Fault Refusal :=
  s.onDevice (Device.commandStep (.writeIdentity tag classroom board) (runWriteIdentity tag classroom board))

/-- SHARE ENABLE (R134). -/
def execShareEnable (tag : Word16) (s : State) : Host.Outcome State Fault Refusal :=
  s.onDevice (Device.commandStep (.shareEnable tag) (runShareEnable tag))

/-- SHARE DISABLE (R135). -/
def execShareDisable (tag : Word16) (s : State) : Host.Outcome State Fault Refusal :=
  s.onDevice (Device.commandStep (.shareDisable tag) (runShareDisable tag))

/-- SET PACING (R144). -/
def execSetPacing (tag : Word16) (period : Byte) (fine : BitVec 4) (s : State) : Host.Outcome State Fault Refusal :=
  s.onDevice (Device.commandStep (.setPacing tag period fine) (runSetPacing tag period fine))

/-- FLUSH (R145). -/
def execFlush (tag : Word16) (s : State) : Host.Outcome State Fault Refusal :=
  s.onDevice (Device.commandStep (.flush tag) (runFlush tag))

/-- READ SHARE (R150). -/
def execReadShare (tag : Word16) (s : State) : Host.Outcome State Fault Refusal :=
  s.onDevice (Device.commandStep (.readShare tag) (runReadShare tag))

/-- FETCH (R173). -/
def execFetch (tag : Word16) (s : State) : Host.Outcome State Fault Refusal :=
  s.onDevice (Device.commandStep (.fetch tag) (runFetch tag))

/-- ACK (R174). -/
def execAck (tag : Word16) (kind : BitVec 4) (subject : BitVec 5) (s : State) : Host.Outcome State Fault Refusal :=
  s.onDevice (Device.commandStep (.ack tag kind subject) (runAck tag kind subject))

/-- SET LEVEL (R172). -/
def execSetLevel (tag : Word16) (kind : BitVec 4) (level : BitVec 3) (s : State) : Host.Outcome State Fault Refusal :=
  s.onDevice (Device.commandStep (.setLevel tag kind level) (runSetLevel tag kind level))

/-- SET LINE THRESHOLD (R177). -/
def execSetLineThreshold (tag : Word16) (threshold : BitVec 3) (s : State) : Host.Outcome State Fault Refusal :=
  s.onDevice (Device.commandStep (.setLineThreshold tag threshold) (runSetLineThreshold tag threshold))

end Sys2Proof.Machine
end

