-- ==== Sys2Proof/Machine/LinkSteps.lean ====
section
/-! DEFINITION. The meanings of the steps that are events at the device's links, lines and timers: reset, the link-valid line,
arriving cells, timer expiries and the tick, and the two egress links. -/

namespace Sys2Proof.Machine

/-! ## Reset and the link-valid line -/

/-- HARD_RESET: the release of RESET, with the level of the link-valid line at it (R1, R16; DESIGN CHOICE, log entry 4). -/
def execHardReset (linkValid : Bool) (s : State) : Host.Outcome State Fault Refusal :=
  s.onDevice fun _ => hardResetDevice linkValid

/-- LINK_VALID_FALLS (R2). -/
def execLinkValidFalls (s : State) : Host.Outcome State Fault Refusal := s.onDevice Device.linkFalls

/-- LINK_VALID_RISES (R3). -/
def execLinkValidRises (s : State) : Host.Outcome State Fault Refusal := s.onDevice Device.linkRises

/-! ## Arriving cells -/

/-- A cell at its arrival: discarded unread while the link state is DOWN, and otherwise taken as its checks find it (R1, R4 to R7).
Whichever row brings the cell, its bytes decide (DESIGN CHOICE, log entry 1). -/
def Device.cellArrives (cell : Cell) (d : Device) : Device :=
  match d.receiver.link with
  | .down => d
  | .up =>
    match classify cell with
    | .sample l n f => d.arriveSample l n f
    | .proximity l n t e => d.arriveProximity l n t e
    | .command c => d.commandArrives c
    | .invalid l => d.badCell l

/-- SAMPLE: the arrival of a cell that its bytes make a SAMPLE (R7). -/
def execSample (cell : Cell) (s : State) : Host.Outcome State Fault Refusal := s.onDevice (Device.cellArrives cell)

/-- PROXIMITY: the arrival of a cell that its bytes make a PROXIMITY (R7). -/
def execProximity (cell : Cell) (s : State) : Host.Outcome State Fault Refusal := s.onDevice (Device.cellArrives cell)

/-- COMMAND_CELL: the arrival of a cell that its bytes make a COMMAND (R6, R153). -/
def execCommandCell (cell : Cell) (s : State) : Host.Outcome State Fault Refusal := s.onDevice (Device.cellArrives cell)

/-- INVALID_CELL: the arrival of a cell that fails its CRC-8 check or is of unknown kind (R4, R5). -/
def execInvalidCell (cell : Cell) (s : State) : Host.Outcome State Fault Refusal := s.onDevice (Device.cellArrives cell)

/-! ## Timers, the tick and the pulse -/

/-- PRESENCE_EXPIRY (R45). -/
def execPresenceExpiry (slot : Slot) (s : State) : Host.Outcome State Fault Refusal := s.onDevice (Device.presenceExpires slot)

/-- LIFT_HOLD_EXPIRY (R53). -/
def execLiftHoldExpiry (slot : Slot) (s : State) : Host.Outcome State Fault Refusal := s.onDevice (Device.liftHoldExpires slot)

/-- The expiry of the pacer's period timer, when its last tick has come in ENABLED: the trigger, the position, the next period
(R143). Like every expiry it is a step of its own and acts only where it is due (DESIGN CHOICE, log entry 3). -/
def Device.pacerExpires (d : Device) : Device :=
  if d.framer.state = .enabled ∧ d.framer.timer = some 0 then
    let d := d.flushTrigger
    { d with framer := d.framer.beginPeriod (d.framer.cycle + 1) }
  else d

/-- PACER_EXPIRY (R143). -/
def execPacerExpiry (s : State) : Host.Outcome State Fault Refusal := s.onDevice Device.pacerExpires

/-- The expiries of one slot that are due, the lift-hold timer's first: R54 gives the outcome of either order (DESIGN CHOICE, log
entry 3). -/
def Device.slotExpires (d : Device) (i : Slot) : Device := (d.liftHoldExpires i).presenceExpires i

/-- Every expiry that is due: those of the slots in ascending order, then the pacer's. -/
def Device.takeDue (d : Device) : Device := (allSlots.foldl Device.slotExpires d).pacerExpires

/-- A millisecond: an expiry that the last tick made due, and that no step has taken since, is taken while the session clock stands as
that tick left it; then the tick advances the clock and the timers. So a timer of T ms expires at its T-th tick (R11, R12; DESIGN CHOICE,
log entry 3). -/
def Device.millisecond (d : Device) : Device := d.takeDue.tick

/-- MILLISECOND_TICK (R11, R12). -/
def execMillisecondTick (s : State) : Host.Outcome State Fault Refusal := s.onDevice Device.millisecond

/-- NOTICE_PULSE_END (R176). -/
def execNoticePulseEnd (s : State) : Host.Outcome State Fault Refusal :=
  s.onDevice fun d => { d with notices := d.notices.pulseEnds }

/-! ## Overlay egress -/

/-- The beginning of an overlay cell: a record queued, none in transmission, the ready line asserted (R128). -/
def Device.overlayBegins (ready : Bool) (d : Device) : Device :=
  match ready, d.router.overlayTx, d.router.overlayQueue with
  | true, none, r :: _ => { d with router := { d.router with overlayTx := some (overlayCell r) } }
  | _, _, _ => d

/-- OVERLAY_TX_BEGIN (R128). -/
def execOverlayTxBegin (ready : Bool) (s : State) : Host.Outcome State Fault Refusal := s.onDevice (Device.overlayBegins ready)

/-- The completion of an overlay cell: its record leaves the queue (R128). -/
def Device.overlayCompletes (d : Device) : Device :=
  if d.router.overlayTx.isSome then
    { d with router := { d.router with overlayTx := none, overlayQueue := d.router.overlayQueue.drop 1 } }
  else d

/-- OVERLAY_TX_COMPLETE (R128). -/
def execOverlayTxComplete (s : State) : Host.Outcome State Fault Refusal := s.onDevice Device.overlayCompletes

/-! ## Share egress -/

/-- A HELD buffer as its frame's transmission begins (R137). -/
def FrameBuffer.begun : FrameBuffer → FrameBuffer
  | .held f => .sending f
  | b => b

/-- The bytes of the frame that a buffer holds. -/
def FrameBuffer.frameBytes : FrameBuffer → List Byte
  | .empty => []
  | .held f => f.bytes
  | .sending f => f.bytes

/-- The frame that was built first begins, and its buffer becomes SENDING (R137, R148). -/
def Device.frameBegins (d : Device) : Device :=
  match d.framer.heldOrder with
  | [] => d
  | b :: rest =>
    { d with
      framer := { d.framer with buffers := d.framer.buffers.set b (d.framer.buffers[b]).begun, heldOrder := rest }
      arbiter := { d.arbiter with inTransmission := some (.frame b (d.framer.buffers[b]).frameBytes) } }

/-- The egress arbiter's choice: the head reply cell, else the HELD frame that was built first (R148). -/
def Device.egressBegins (ready : Bool) (d : Device) : Device :=
  match ready, d.arbiter.inTransmission with
  | true, none =>
    match d.arbiter.replies with
    | r :: _ => { d with arbiter := { d.arbiter with inTransmission := some (.reply r.bytes) } }
    | [] => d.frameBegins
  | _, _ => d

/-- SHARE_EGRESS_BEGIN (R148). -/
def execShareEgressBegin (ready : Bool) (s : State) : Host.Outcome State Fault Refusal := s.onDevice (Device.egressBegins ready)

/-- The completion of a reply cell: it leaves the reply queue, and the taking test is made (R148, R154). The next item of a
range read is the step RANGE_READ_NEXT_ITEM (DEDUCED, log entry 5). -/
def Device.replyCompletes (d : Device) : Device :=
  match d.arbiter.inTransmission with
  | some (.reply _) => Device.takingTest { d with arbiter := ⟨d.arbiter.replies.drop 1, none⟩ }
  | _ => d

/-- REPLY_TX_COMPLETE (R148). -/
def execReplyTxComplete (s : State) : Host.Outcome State Fault Refusal := s.onDevice Device.replyCompletes

/-- The completion of a frame: its buffer becomes EMPTY, and the Share Framer takes the freed buffer (R136, R140, R141, R148). -/
def Device.frameCompletes (d : Device) : Device :=
  match d.arbiter.inTransmission with
  | some (.frame b _) =>
    Device.takeFreedBuffer
      { d with
        framer := { d.framer with buffers := d.framer.buffers.set b .empty }
        arbiter := { d.arbiter with inTransmission := none } }
  | _ => d

/-- FRAME_TX_COMPLETE (R148). -/
def execFrameTxComplete (s : State) : Host.Outcome State Fault Refusal := s.onDevice Device.frameCompletes

/-- RANGE_READ_NEXT_ITEM: one item formed, then the taking test where the read has ended (R157, R154). -/
def execRangeReadNextItem (s : State) : Host.Outcome State Fault Refusal :=
  s.onDevice fun d => if d.responder.reading.isSome then d.nextItem.takingTest else d

end Sys2Proof.Machine
end

