-- ==== Sys2Proof/Machine/Dispatch.lean ====
section
/-! DEFINITION. The meaning of every row of spec/opcode_table.json, one arm per constructor of `Instr`. -/

namespace Sys2Proof.Machine

def exec (i : Instr) (s : State) : Host.Outcome State Fault Refusal :=
  match i with
  | .hardReset linkValid => Sys2Proof.Machine.execHardReset linkValid s
  | .linkValidFalls => Sys2Proof.Machine.execLinkValidFalls s
  | .linkValidRises => Sys2Proof.Machine.execLinkValidRises s
  | .millisecondTick => Sys2Proof.Machine.execMillisecondTick s
  | .sample cell => Sys2Proof.Machine.execSample cell s
  | .proximity cell => Sys2Proof.Machine.execProximity cell s
  | .commandCell cell => Sys2Proof.Machine.execCommandCell cell s
  | .invalidCell cell => Sys2Proof.Machine.execInvalidCell cell s
  | .presenceExpiry slot => Sys2Proof.Machine.execPresenceExpiry slot s
  | .liftHoldExpiry slot => Sys2Proof.Machine.execLiftHoldExpiry slot s
  | .pacerExpiry => Sys2Proof.Machine.execPacerExpiry s
  | .noticePulseEnd => Sys2Proof.Machine.execNoticePulseEnd s
  | .overlayTxBegin ready => Sys2Proof.Machine.execOverlayTxBegin ready s
  | .overlayTxComplete => Sys2Proof.Machine.execOverlayTxComplete s
  | .shareEgressBegin ready => Sys2Proof.Machine.execShareEgressBegin ready s
  | .replyTxComplete => Sys2Proof.Machine.execReplyTxComplete s
  | .frameTxComplete => Sys2Proof.Machine.execFrameTxComplete s
  | .rangeReadNextItem => Sys2Proof.Machine.execRangeReadNextItem s
  | .unknownCommand code tag => Sys2Proof.Machine.execUnknownCommand code tag s
  | .readStatus tag => Sys2Proof.Machine.execReadStatus tag s
  | .readCounters tag group clear => Sys2Proof.Machine.execReadCounters tag group clear s
  | .clearCounters tag => Sys2Proof.Machine.execClearCounters tag s
  | .restart tag => Sys2Proof.Machine.execRestart tag s
  | .readTime tag => Sys2Proof.Machine.execReadTime tag s
  | .setTime tag value => Sys2Proof.Machine.execSetTime tag value s
  | .writeAdmission tag index enable matchValue mask attr profile => Sys2Proof.Machine.execWriteAdmission tag index enable matchValue mask attr profile s
  | .readAdmission tag first last => Sys2Proof.Machine.execReadAdmission tag first last s
  | .writeProfile tag index block => Sys2Proof.Machine.execWriteProfile tag index block s
  | .readProfile tag first last => Sys2Proof.Machine.execReadProfile tag first last s
  | .writeCurve tag index knots => Sys2Proof.Machine.execWriteCurve tag index knots s
  | .readCurve tag first last => Sys2Proof.Machine.execReadCurve tag first last s
  | .readSlot tag first last part => Sys2Proof.Machine.execReadSlot tag first last part s
  | .writeSlotParameters tag slot block attr => Sys2Proof.Machine.execWriteSlotParameters tag slot block attr s
  | .setOffset tag slot x y => Sys2Proof.Machine.execSetOffset tag slot x y s
  | .setSlotEnable tag slot enable => Sys2Proof.Machine.execSetSlotEnable tag slot enable s
  | .unbind tag slot => Sys2Proof.Machine.execUnbind tag slot s
  | .forceLeave tag slot => Sys2Proof.Machine.execForceLeave tag slot s
  | .captureOffset tag slot x y => Sys2Proof.Machine.execCaptureOffset tag slot x y s
  | .cancelCapture tag slot => Sys2Proof.Machine.execCancelCapture tag slot s
  | .writeSettings tag presence guest => Sys2Proof.Machine.execWriteSettings tag presence guest s
  | .readSettings tag => Sys2Proof.Machine.execReadSettings tag s
  | .writeZoneRect tag zone xMin xMax yMin yMax => Sys2Proof.Machine.execWriteZoneRect tag zone xMin xMax yMin yMax s
  | .writeZoneAttributes tag zone enable rules => Sys2Proof.Machine.execWriteZoneAttributes tag zone enable rules s
  | .writeOpenArea tag rules => Sys2Proof.Machine.execWriteOpenArea tag rules s
  | .readZone tag selector first last => Sys2Proof.Machine.execReadZone tag selector first last s
  | .apply tag => Sys2Proof.Machine.execApply tag s
  | .retireNow tag => Sys2Proof.Machine.execRetireNow tag s
  | .lockLayout tag => Sys2Proof.Machine.execLockLayout tag s
  | .readLayout tag => Sys2Proof.Machine.execReadLayout tag s
  | .readStroke tag first last part => Sys2Proof.Machine.execReadStroke tag first last part s
  | .writeIdentity tag classroom board => Sys2Proof.Machine.execWriteIdentity tag classroom board s
  | .shareEnable tag => Sys2Proof.Machine.execShareEnable tag s
  | .shareDisable tag => Sys2Proof.Machine.execShareDisable tag s
  | .setPacing tag period fine => Sys2Proof.Machine.execSetPacing tag period fine s
  | .flush tag => Sys2Proof.Machine.execFlush tag s
  | .readShare tag => Sys2Proof.Machine.execReadShare tag s
  | .fetch tag => Sys2Proof.Machine.execFetch tag s
  | .ack tag kind subject => Sys2Proof.Machine.execAck tag kind subject s
  | .setLevel tag kind level => Sys2Proof.Machine.execSetLevel tag kind level s
  | .setLineThreshold tag threshold => Sys2Proof.Machine.execSetLineThreshold tag threshold s

end Sys2Proof.Machine
end

