-- ==== Sys2Proof/Machine/Step.lean ====
section
/-! DEFINITION. One step of the machine: the oldest waiting step is taken and executed; with none waiting the device idles. -/

namespace Sys2Proof.Machine

/-- The step at the front of the queue executed on the rest; on an empty queue nothing happens (DESIGN CHOICE,
log entry 6). -/
def step (s : State) : Host.Outcome State Fault Refusal :=
  match s.pending with
  | [] => .next s
  | i :: rest => exec i { s with pending := rest }

/-- The state with the step that an opcode-table word spells put at the front of its queue; no word spells one
(log entry 13). -/
def State.withFetchWord (s : State) (nbits w : Nat) : State :=
  match decodeTableWord nbits w with
  | some i => { s with pending := i :: s.pending }
  | none => s

end Sys2Proof.Machine
end

