-- ==== Sys2Proof/Safety.lean ====
section
/-! DEFINITION. What every state of a run of the IN-12 keeps, in the terms the statements use: each predicate is a promise that a
rule of the spec makes about the whole device. -/

namespace Sys2Proof.Machine

/-- The Notice Queue's promises: at most 16 entries, in queue order, one per kind and subject, levels 1 to 7, repeat counts 1 to 255
(R169), a threshold of 1 to 7 (R177), and a line that follows its condition except during a pulse (R175). -/
abbrev NoticeQueue.Sound (q : NoticeQueue) : Prop :=
  q.entries.length ≤ 16 ∧
  q.entries.Pairwise (fun a b => b.level < a.level ∨ a.level = b.level ∧ a.arrival < b.arrival) ∧
  q.entries.Pairwise (fun a b => ¬(a.kind = b.kind ∧ a.subject = b.subject)) ∧
  (∀ e ∈ q.entries, e.level ≠ 0 ∧ e.repeats ≠ 0 ∧ e.arrival < q.arrivals) ∧
  q.threshold ≠ 0 ∧
  (q.line ≠ .pulsing → (q.line = .asserted ↔ q.condition = true))

/-- The Segment Router's promises: a reservation for each stroke live in a queue (R118), and room for every CLOSE (R120). -/
abbrev Router.Sound (r : Router) : Prop :=
  (∀ v ∈ r.deliveries, v.overlayReserved = v.overlayLive ∧ v.shareReserved = v.shareLive) ∧
  r.overlayQueue.length + r.overlayReservations ≤ 48 ∧
  r.shareQueue.length + r.shareReservations ≤ 64

/-- Whether a reply cell in transmission is the head of the reply queue. -/
def EgressArbiter.sendsHead (a : EgressArbiter) : Bool :=
  match a.inTransmission with
  | some (.reply b) => decide (a.replies.head?.map ReplyCell.bytes = some b)
  | _ => true

/-- The bounds of the command queue (R153) and of the reply queue, in which a reply in transmission is the head (R147); a command waits only
behind a read in hand or a full reply queue (R154). -/
abbrev Device.QueuesSound (d : Device) : Prop :=
  d.responder.queue.length ≤ 8 ∧ d.arbiter.replies.length ≤ 4 ∧ d.arbiter.sendsHead = true ∧
  (d.responder.queue ≠ [] → d.responder.reading ≠ none ∨ 4 ≤ d.arbiter.replies.length)

/-- Whether a frame buffer is HELD. -/
def FrameBuffer.isHeld : FrameBuffer → Bool
  | .held _ => true
  | _ => false

/-- Whether a frame buffer is SENDING. -/
def FrameBuffer.isSending : FrameBuffer → Bool
  | .sending _ => true
  | _ => false

/-- Whether the frame of a buffer is in transmission. -/
def EgressArbiter.sendsFrame (a : EgressArbiter) (b : Fin 2) : Bool :=
  match a.inTransmission with
  | some (.frame c _) => c = b
  | _ => false

/-- The frame buffers' promises: the HELD ones in the order of their building, a SENDING one in transmission (R137, R148). -/
abbrev Device.FramesSound (d : Device) : Prop :=
  d.framer.heldOrder.Nodup ∧
  ∀ b : Fin 2, ((d.framer.buffers[b]).isHeld = true ↔ b ∈ d.framer.heldOrder) ∧
    (d.framer.buffers[b]).isSending = d.arbiter.sendsFrame b

/-- One slot's promises: FREE binding and FREE contact state go together, a disabled slot is FREE (R21), a stroke is open exactly in
INKING and HOLDING (R81), and the timers run in the states of Figure 3-1 and R52. -/
abbrev Device.SlotSound (d : Device) (i : Slot) : Prop :=
  ((d.slot i).binding = .free ↔ (d.contact i).state = .free) ∧
  ((d.slot i).enabled = false → (d.slot i).binding = .free) ∧
  ((d.context i).isOpen = true ↔ (d.contact i).state = .inking ∨ (d.contact i).state = .holding) ∧
  ((d.contact i).liftHold.isSome = true ↔ (d.contact i).state = .holding) ∧
  ((d.contact i).presence.isNone = true ↔ (d.contact i).state = .free ∨ (d.contact i).state = .away)

/-- Every slot's promises. -/
abbrev Device.SlotsSound (d : Device) : Prop := ∀ i : Slot, d.SlotSound i

/-- A pen is bound to at most one slot (R21). -/
abbrev Device.PensSound (d : Device) : Prop :=
  ∀ i j : Slot, (d.slot i).binding = .bound → (d.slot j).binding = .bound → (d.slot i).transducer = (d.slot j).transducer → i = j

/-- No two open strokes carry the same id, and 0 is never one (R83). -/
abbrev Device.IdsSound (d : Device) : Prop :=
  d.strokes.candidate ≠ 0 ∧ (∀ i : Slot, (d.context i).isOpen = true → (d.context i).id ≠ 0) ∧
  ∀ i j : Slot, (d.context i).isOpen = true → (d.context j).isOpen = true → (d.context i).id = (d.context j).id → i = j

/-- The open strokes bound under a generation that satisfies `p`. -/
def Device.openBound (d : Device) (p : Byte → Bool) : Nat :=
  allSlots.countP fun i => (d.context i).isOpen && p (d.context i).generation

/-- The banks' promises (R67, R70): the binding counts count the open strokes of each bank, every open stroke is bound to the active
bank or, while RETIRING, to the retiring one, and a retiring bank has a stroke. -/
abbrev Device.BanksSound (d : Device) : Prop :=
  d.zones.activeBank.bindings = d.openBound (fun g => g = d.zones.generation) ∧
  (d.zones.bank d.zones.other).bindings = d.openBound (fun g => g ≠ d.zones.generation) ∧
  (∀ i : Slot, (d.context i).isOpen = true →
    (d.context i).generation = d.zones.generation ∨
      d.zones.apply = .retiring ∧ (d.context i).generation = d.zones.generation - 1) ∧
  (d.zones.apply = .retiring ↔ 0 < (d.zones.bank d.zones.other).bindings)

/-- The rules of the zone that a slot's open stroke is bound to. -/
def Device.boundRules (d : Device) (i : Slot) : ZoneRules :=
  (d.zones.bank (d.zones.bankOfGeneration (d.context i).generation)).rulesOf (d.context i).zone

/-- Every open stroke is permitted by the zone it is bound to: its steering is never OFF (R63), it is a TEACHER's in a protected zone
(R64), and it carries the steering and the width cap that the zone still has (R63, R115). -/
abbrev Device.PermitsSound (d : Device) : Prop :=
  ∀ i : Slot, (d.context i).isOpen = true →
    (d.context i).steering ≠ .off ∧
    ((d.boundRules i).guarded = true → (d.context i).role = .teacher) ∧
    (d.context i).steering = resolvedSteering (d.context i).role (d.context i).group (d.boundRules i) ∧
    (d.context i).widthCap = (d.boundRules i).widthCap

/-- The delivery records belong to the open strokes, one each (R118). -/
abbrev Device.DeliveriesSound (d : Device) : Prop :=
  d.router.deliveries.Pairwise (fun u v => u.id ≠ v.id) ∧
  (∀ v ∈ d.router.deliveries, (d.context v.slot).isOpen = true ∧ (d.context v.slot).id = v.id) ∧
  ∀ i : Slot, (d.context i).isOpen = true → ∃ v ∈ d.router.deliveries, v.id = (d.context i).id ∧ v.slot = i

/-- The share path's promises: the pacer runs in ENABLED alone (R142), no stroke is share-live outside it (R132), the queue is empty in
DISABLED, a draining has something left to send (R136), and sharing runs under a written identity (R134). -/
abbrev Device.ShareSound (d : Device) : Prop :=
  (d.framer.timer.isSome = true ↔ d.framer.state = .enabled) ∧
  (d.framer.state ≠ .enabled → (∀ v ∈ d.router.deliveries, v.shareLive = false) ∧ d.framer.pendingFlush = false ∧ d.framer.cycle = 0) ∧
  (d.framer.state = .disabled → d.router.shareQueue = []) ∧
  (d.framer.state = .draining → ¬(d.router.shareQueue = [] ∧ d.framer.buffersEmpty = true)) ∧
  (d.framer.state ≠ .disabled → d.framer.written = true)

/-- Every filter value lies in 0 to 1,048,560 on each axis (R108). -/
abbrev Device.FiltersSound (d : Device) : Prop := ∀ i : Slot, (d.filter i).sx ≤ 1048560 ∧ (d.filter i).sy ≤ 1048560

/-- A profile that has passed the clamps of Figure 2-1. -/
abbrev Profile.Clamped (p : Profile) : Prop := p.down ≠ 0 ∧ p.smoothing ≤ 4 ∧ p.eraserWidth ≠ 0

/-- Every stored setting has passed its clamp: profiles and parameter copies (R19), knots (R20), offsets (R33), presence count (R38),
pacer period (R144). -/
abbrev Device.SettingsSound (d : Device) : Prop :=
  (∀ i : Fin 4, Profile.Clamped d.pens.profiles[i]) ∧ (∀ i : Slot, Profile.Clamped (d.slot i).params) ∧
  (∀ (i : Fin 4) (j : Fin 9), (d.pens.curves[i])[j] ≠ 0) ∧
  (∀ i : Slot, -512 ≤ (d.slot i).offsetX ∧ (d.slot i).offsetX ≤ 511 ∧ -512 ≤ (d.slot i).offsetY ∧ (d.slot i).offsetY ≤ 511) ∧
  d.pens.presenceCount ≠ 0 ∧ d.framer.period ≠ 0

/-- The last width of every open stroke lies in 1 to 255 and under the stroke's cap (R115). -/
abbrev Device.WidthsSound (d : Device) : Prop :=
  ∀ i : Slot, (d.context i).isOpen = true →
    (d.context i).lastWidth ≠ 0 ∧ ((d.context i).widthCap ≠ 0 → (d.context i).lastWidth ≤ (d.context i).widthCap)

/-- A safe state: every promise above. -/
abbrev Device.Sound (d : Device) : Prop :=
  d.notices.Sound ∧ d.router.Sound ∧ d.QueuesSound ∧ d.FramesSound ∧ d.SlotsSound ∧ d.PensSound ∧ d.IdsSound ∧ d.BanksSound ∧
  d.PermitsSound ∧ d.DeliveriesSound ∧ d.ShareSound ∧ d.FiltersSound ∧ d.SettingsSound ∧ d.WidthsSound

/-! ## The terms of the statements -/

/-- Step `i` takes `s` to the next state whose device is `e`, the waiting steps kept. -/
abbrev Becomes (i : Instr) (s : State) (e : Device) : Prop := exec i s = .next ⟨e, s.pending⟩

/-- Step `i` takes `s` to a next state, the waiting steps kept, whose device satisfies `p`. -/
abbrev Leads (i : Instr) (s : State) (p : Device → Prop) : Prop := ∃ e, exec i s = .next ⟨e, s.pending⟩ ∧ p e

/-- A command step is executed at once: the responder is IDLE, the reply queue has room, and no older command waits (R154). -/
abbrev Device.Ready (d : Device) : Prop :=
  d.responder.reading = none ∧ d.responder.queue = [] ∧ d.arbiter.replies.length < 4

/-- A device with one more reply at the tail of its reply queue, and nothing else changed. -/
def Device.answered (r : ReplyCell) (d : Device) : Device :=
  { d with arbiter := { d.arbiter with replies := d.arbiter.replies ++ [r] } }

/-- Step `i` takes the device to `e` and forms one reply there, with `e`'s status (R155, R156). -/
abbrev Answers (i : Instr) (s : State) (tag : Word16) (code : Byte) (result : Result) (payload : List Byte) (e : Device) : Prop :=
  Becomes i s (e.answered (formReply tag code result e.status payload))

/-- Step `i` forms one reply with a result other than DONE and a payload of zeros, and changes nothing else (R158). -/
abbrev Refuses (i : Instr) (s : State) (tag : Word16) (code : Byte) (result : Result) : Prop := Answers i s tag code result [] s.dev

/-- The device once a pen cell of lane `l` with sequence number `n` has passed the lane check and reached its bound slot: the lane check
made, the slot's last-seen time and lane recorded (R8, R9, R22). -/
def Device.reached (i : Slot) (l : Lane) (n : BitVec 4) (d : Device) : Device := (d.checkSequence l n).seen i l d.clock

/-- The same, the slot's presence timer restarted (R45). -/
def Device.received (i : Slot) (l : Lane) (n : BitVec 4) (d : Device) : Device := (d.reached i l n).restartPresence i

/-- The step is the arrival, on an UP link, of a SAMPLE with these fields from the pen bound to slot `i`. -/
abbrev SampleFor (s : State) (cell : Cell) (i : Slot) (l : Lane) (n : BitVec 4) (f : SampleFields) : Prop :=
  s.dev.receiver.link = .up ∧ classify cell = .sample l n f ∧ s.dev.slotOfPen f.transducer = some i

/-- The step is the arrival, on an UP link, of a PROXIMITY from the pen bound to slot `i`. -/
abbrev ProximityFor (s : State) (cell : Cell) (i : Slot) (l : Lane) (n : BitVec 4) (t : Word24) (ev : ProximityEvent) : Prop :=
  s.dev.receiver.link = .up ∧ classify cell = .proximity l n t ev ∧ s.dev.slotOfPen t = some i

/-- An entry matches a transducer id: it is enabled, and the id equals the match value in every bit where the mask holds a 1 (R17). -/
abbrev AdmissionEntry.Matches (e : AdmissionEntry) (t : Word24) : Prop :=
  e.enable = true ∧ ∀ k : Fin 24, e.mask.getLsbD k = true → t.getLsbD k = e.matchValue.getLsbD k

/-- A lookup of a transducer id gives these terms: those of the matching entry of lowest index, or, where no entry matches and guest
admission is on, the guest result GUEST, group 3, colour 15, profile 0 (R17, R18). -/
abbrev PenTable.Gives (p : PenTable) (t : Word24) (a : Admission) : Prop :=
  (∃ j : Fin 8,
    (p.admission[j]).Matches t ∧ (∀ k : Fin 8, k < j → ¬(p.admission[k]).Matches t) ∧
      a = ⟨(p.admission[j]).role, (p.admission[j]).group, (p.admission[j]).colour, (p.admission[j]).profile⟩) ∨
  (∀ j : Fin 8, ¬(p.admission[j]).Matches t) ∧ p.guestAdmission = true ∧ a = ⟨.guest, 3, 15, 0⟩

/-- Slot `i` has a timer whose last tick has come (R12). -/
abbrev Device.SlotDue (d : Device) (i : Slot) : Prop :=
  (d.contact i).presence = some 0 ∨ (d.contact i).state = .holding ∧ (d.contact i).liftHold = some 0

/-- Some timer's last tick has come (R12). -/
abbrev Device.AnyDue (d : Device) : Prop := (∃ i : Slot, d.SlotDue i) ∨ d.framer.state = .enabled ∧ d.framer.timer = some 0

/-- Every slot but `i` has the same pen record, contact fields, stroke context, filter value and summary in `d` and in `e`. -/
abbrev Device.OthersKept (i : Slot) (d e : Device) : Prop :=
  ∀ j : Slot, j ≠ i →
    e.slot j = d.slot j ∧ e.contact j = d.contact j ∧ e.context j = d.context j ∧ e.filter j = d.filter j ∧ e.summary j = d.summary j

/-- What a step inside the contact units, the strokes and the router leaves alone: the Cell Receiver, the clock, the Management
Responder, the reply queue and the unit in transmission, the pens, and the layout but for its counts. -/
abbrev Device.SurroundingsKept (d e : Device) : Prop :=
  e.receiver = d.receiver ∧ e.clock = d.clock ∧ e.responder = d.responder ∧ e.arbiter = d.arbiter ∧ e.pens = d.pens ∧
  e.zones.active = d.zones.active ∧ e.zones.generation = d.zones.generation ∧ e.zones.locked = d.zones.locked ∧
  e.framer.state = d.framer.state ∧ e.framer.timer = d.framer.timer ∧ e.framer.cycle = d.framer.cycle

/-- Between `d` and `e` a frame has been built into buffer `b` from the first six records of the share queue: the header of this moment,
the records in their order, the CRC-16 over both, the frame HELD behind those built before, and the counts (R137 to R139, R151). -/
abbrev Device.BuiltFrame (b : Fin 2) (d e : Device) : Prop :=
  (∃ f : Frame,
    e.framer.buffers[b] = .held f ∧ f.classroom = d.framer.classroom ∧ f.board = d.framer.board ∧
      f.sequence = d.framer.nextSequence ∧ f.generation = d.zones.generation ∧ f.time = d.clock ∧
      f.records = d.router.shareQueue.take 6 ∧ f.crc = crc16 f.body) ∧
  (∀ c : Fin 2, c ≠ b → e.framer.buffers[c] = d.framer.buffers[c]) ∧
  e.framer.heldOrder = d.framer.heldOrder ++ [b] ∧
  e.router = { d.router with shareQueue := d.router.shareQueue.drop 6 } ∧
  e.framer.nextSequence = d.framer.nextSequence + 1 ∧ e.framer.pendingFlush = false ∧
  e.framer.framesBuilt = satInc d.framer.framesBuilt ∧
  e.framer.recordsFramed = satAdd d.framer.recordsFramed (d.router.shareQueue.take 6).length ∧
  e.framer.deferredFlushes = d.framer.deferredFlushes

/-- The same, with nothing else of the device changed (R138, R139, R151). -/
abbrev Device.BuiltOnly (b : Fin 2) (d e : Device) : Prop :=
  Device.BuiltFrame b d e ∧ e = { d with router := e.router, framer := e.framer } ∧
  e.framer =
    { d.framer with
      buffers := e.framer.buffers, heldOrder := e.framer.heldOrder, nextSequence := e.framer.nextSequence,
      pendingFlush := e.framer.pendingFlush, framesBuilt := e.framer.framesBuilt, recordsFramed := e.framer.recordsFramed }

/-- The frames built from `d` on while at least `least` records are queued and a buffer is EMPTY, the lowest EMPTY buffer first: two, one or
none (R136, R137, R140). -/
abbrev Device.BuiltFrames (least : Nat) (d e : Device) : Prop :=
  let free := fun b : Fin 2 => d.framer.buffers[b] = .empty
  let queued := d.router.shareQueue.length
  if least ≤ queued ∧ (free 0 ∨ free 1) then
    if free 0 ∧ free 1 ∧ least + 6 ≤ queued then ∃ m : Device, Device.BuiltOnly 0 d m ∧ Device.BuiltOnly 1 m e
    else if free 0 then Device.BuiltOnly 0 d e
    else Device.BuiltOnly 1 d e
  else e = d

/-- What the six-record trigger makes of `d`: in ENABLED the frames built while six records are queued, and otherwise nothing (R137, R140). -/
abbrev Device.FilledFrames (d e : Device) : Prop :=
  if d.framer.state = .enabled then Device.BuiltFrames 6 d e else e = d

/-- What the framing of DRAINING makes of `d`: the frames built while a record is queued, then, where the share queue and both frame buffers
are empty, DISABLED and SHARE_DRAINED (R135, R136). -/
abbrev Device.DrainedFrames (d e : Device) : Prop :=
  ∃ m : Device,
    Device.BuiltFrames 1 d m ∧
    e =
      if m.router.shareQueue = [] ∧ m.framer.buffers[(0 : Fin 2)] = .empty ∧ m.framer.buffers[(1 : Fin 2)] = .empty then
        { m with framer := { m.framer with state := .disabled }, notices := m.notices.post .shareDrained none }
      else m

/-- Between `d` and `e` the SEG `g` of slot `i`'s stroke has been offered to the outputs. An overlay-live stroke offers it to the overlay queue;
a stroke that is share-live and not truncated offers its share form to the share queue, where it enters with the six-record test, or else cuts
the stroke short with SHARE_OVERFLOW (R118, R120, R123, R125, R140). -/
abbrev Device.SegOffered (i : Slot) (g : SegRecord) (d e : Device) : Prop :=
  let overlayLive := (d.router.delivery g.id).any (·.overlayLive)
  let shareOpen := (d.router.delivery g.id).any fun v => v.shareLive && !v.shareTruncated
  let shareRoom := d.router.shareQueue.length + d.router.shareReservations + 1 ≤ 64
  let r := if overlayLive then d.router.offerOverlaySeg g else d.router
  (overlayLive = true → d.router.overlayQueue.length + d.router.overlayReservations + 1 ≤ 48 →
    e.router.overlayQueue = d.router.overlayQueue ++ [.segRec g]) ∧
  e.router.overlayQueue = r.overlayQueue ∧
  (shareOpen = false → e.router = r ∧ e.framer = d.framer ∧ e.notices = d.notices) ∧
  (shareOpen = true → shareRoom →
    Device.FilledFrames
        { d with router := { r with shareQueue := d.router.shareQueue ++ [.segRec ⟨g.id, g.sequence, g.toX, g.toY, g.width, g.time⟩] } }
        { d with router := e.router, framer := e.framer } ∧
      e.notices = d.notices) ∧
  (shareOpen = true → ¬shareRoom →
    e.router =
        { r with
          truncatedStrokes := satInc d.router.truncatedStrokes
          deliveries := r.deliveries.map fun v => if v.id = g.id then { v with shareTruncated := true } else v } ∧
      e.framer = d.framer ∧ e.notices = d.notices.post .shareOverflow (slotSubject i))

/-- Between `d` and `e` a stroke of end `w` has opened in slot `i` at the unit point `u` of the sample `q`, bound to zone `z` in the active bank:
the context as R85 gives it, the id taken, the binding counted, and the OPEN record of Figure 5-3 handed to the router with the context's
steering (R63, R67, R83, R85, R86). -/
abbrev Device.StrokeOpened (i : Slot) (w : PenEnd) (z : ZoneNo) (u : Point) (q : Sample) (continued : Bool) (d e : Device) : Prop :=
  let p := d.slot i
  let rules := d.zones.activeBank.rulesOf z
  let k : StrokeContext :=
    { isOpen := true, id := d.newId, role := p.role, group := p.group, colour := if w = .eraser then 0 else p.colour, penEnd := w,
      zone := z, generation := d.zones.generation, steering := resolvedSteering p.role p.group rules, widthCap := rules.widthCap,
      openTime := q.stamp, sequence := 0, count := 0, lastX := u.x, lastY := u.y,
      lastWidth := d.widthFor i w q.fields.pressure rules.widthCap, laneGap := false, continued := continued }
  let m :=
    d.routeOpen
      { id := k.id, slot := i, role := k.role, group := k.group, penEnd := k.penEnd, colour := k.colour, zone := k.zone, x := k.lastX,
        y := k.lastY, width := k.lastWidth, time := k.openTime.setWidth 16, continued := k.continued }
      k.steering
  e.context i = k ∧ e.strokes.candidate = nextId d.newId ∧
  e.zones = d.zones.setBank d.zones.active { d.zones.activeBank with bindings := d.zones.activeBank.bindings + 1 } ∧
  e.router = m.router ∧ e.framer = m.framer ∧ e.notices = m.notices

/-- Between `d` and `e` the open stroke of slot `i` has closed with this reason and close time: the CLOSE record of Figure 5-6 handed to the
router, the summary replaced whole, the binding released, a retiring that this ends completed with APPLY_DONE, and the context closed (R67, R71,
R93, R94, R99). -/
abbrev Device.StrokeClosed (i : Slot) (reason : CloseReason) (time : Word32) (d e : Device) : Prop :=
  let k := d.context i
  let v := d.router.delivery k.id
  let m := d.routeClose k.id k.count reason k.laneGap (time.setWidth 16)
  let z := d.zones
  let n := z.bankOfGeneration k.generation
  let left := (z.bank n).bindings - 1
  e.context i = StrokeContext.closed ∧
  e.summary i =
    { id := k.id, reason := reason, count := k.count, penEnd := k.penEnd, zone := k.zone, generation := k.generation,
      openTime := k.openTime, closeTime := time,
      flags :=
        { laneGap := k.laneGap, overlayGap := v.any (·.overlayGap), shareTruncated := v.any (·.shareTruncated),
          coalesced := v.any (·.coalesced), continued := k.continued, overlaySuppressed := v.any (·.overlaySuppressed) } } ∧
  e.router = m.router ∧ e.framer = m.framer ∧
  (if z.apply = .retiring ∧ n = z.other ∧ left = 0 then
    e.zones = { z.setBank z.other { z.activeBank with blocked := Vector.replicate 17 0, bindings := 0 } with apply := .idle } ∧
      e.notices = d.notices.post .applyDone none
  else e.zones = z.setBank n { z.bank n with bindings := left } ∧ e.notices = d.notices)

/-- The device once the CLOSE records of these slots' strokes, as they stand in `d`, have been handed to the router one after another, each with
its reason and close time (R93, R94, R97). -/
def Device.closesRouted (reason : Slot → CloseReason) (time : Slot → Word32) (slots : List Slot) (d : Device) : Device :=
  slots.foldl
    (fun e i => e.routeClose (d.context i).id (d.context i).count (reason i) (d.context i).laneGap ((time i).setWidth 16)) d

/-- The accounting of a refusal by zone `z`: a protected zone, and no other, counts it in the active bank and posts PROTECTED_BLOCK (R44,
R65). -/
abbrev Device.RefusalCounted (z : ZoneNo) (d e : Device) : Prop :=
  if (d.zones.activeBank.rulesOf z).guarded then
    e.notices = d.notices.post .protectedBlock (some z) ∧
      e.zones =
        d.zones.setBank d.zones.active
          { d.zones.activeBank with blocked := d.zones.activeBank.blocked.set z (satInc d.zones.activeBank.blocked[z]) }
  else e.notices = d.notices ∧ e.zones = d.zones

/-- Between `d` and `e` the sample `q` has opened a stroke in slot `i` at its corrected point, bound to its zone in the active bank, the slot
INKING and the filter seeded (R49, R85, R87). -/
abbrev Device.StrokeBegun (i : Slot) (q : Sample) (d e : Device) : Prop :=
  let u := d.corrected i q
  Device.StrokeOpened i (d.effectiveEnd i q) (d.activeZone i q) u q false d e ∧
  e.contact i = { d.contact i with state := .inking } ∧
  e.filter i = ⟨16 * u.x.toNat, 16 * u.y.toNat⟩ ∧ e.summary i = d.summary i ∧
  (∃ v ∈ e.router.deliveries, v.id = d.newId ∧ v.slot = i) ∧
  d.OthersKept i e ∧ d.SurroundingsKept e

/-- Between `d` and `e` the zone of the sample `q` has refused slot `i`'s contact: the slot is BLOCKED with the filter seeded, and a protected
zone, and no other, has counted it in the active bank and posted PROTECTED_BLOCK (R44, R49, R65). -/
abbrev Device.ContactBlocked (i : Slot) (q : Sample) (d e : Device) : Prop :=
  let u := d.corrected i q
  let z := d.activeZone i q
  e.contact i = { d.contact i with state := .blocked } ∧ e.filter i = ⟨16 * u.x.toNat, 16 * u.y.toNat⟩ ∧
  d.RefusalCounted z e ∧ d.OthersKept i e ∧
  e = { d with contacts := e.contacts, filters := e.filters, notices := e.notices, zones := e.zones }

/-- The device once the sample `q` has begun a settle in slot `i`: the filter seeded, the settle counter set (R49, step 5). -/
def Device.settleBegun (i : Slot) (q : Sample) (d : Device) : Device :=
  let u := d.corrected i q
  (d.setFilter i ⟨16 * u.x.toNat, 16 * u.y.toNat⟩).setContact i
    { d.contact i with state := .settling, settle := (d.slot i).params.settleCount.toNat }

/-- Slot `i` has left range between `d` and `e`, and its stroke, if it had one, has closed with this reason and close time (R45, R57,
R36): the slot is AWAY with its timers stopped, its short contacts kept, and nothing else of the pens has changed. -/
abbrev Device.LeftRange (i : Slot) (reason : CloseReason) (time : Word32) (d e : Device) : Prop :=
  (e.contact i).state = .away ∧ (e.contact i).presence = none ∧ (e.contact i).liftHold = none ∧
  (e.contact i).shortContacts = (d.contact i).shortContacts ∧ e.slot i = d.slot i ∧ e.filter i = d.filter i ∧
  ((d.context i).isOpen = true → d.StrokeClosed i reason time e) ∧
  ((d.context i).isOpen = false →
    e.context i = d.context i ∧ e.summary i = d.summary i ∧ e.router = d.router ∧ e.zones = d.zones ∧ e.notices = d.notices ∧
    e.framer = d.framer) ∧
  d.OthersKept i e

/-- What the taking test makes of `d`: nothing where no command waits, a read is in hand or the reply queue is full; else the oldest waiting
command leaves the queue and is executed, and the test is made again (R154, R155). -/
abbrev Device.TakesOldest (d e : Device) : Prop :=
  (d.responder.queue = [] ∨ d.responder.reading ≠ none ∨ 4 ≤ d.arbiter.replies.length → e = d) ∧
  ∀ (c : Command) (waiting : List Command),
    d.responder.queue = c :: waiting → d.responder.reading = none → d.arbiter.replies.length < 4 →
    e = (runCommand (decodeCommand c) { d with responder := { d.responder with queue := waiting } }).takingTest

/-- A range read taken between `d` and `e`: the replies of its first items as the reply queue has room for them, each with its own item,
then IDLE after the last item and READING before it (R157). The clear of READ COUNTERS stands apart, in `Device.Cleared`. -/
abbrev Device.TookRead (tag : Word16) (t : ReadTarget) (first last : Nat) (d e : Device) : Prop :=
  let k := min (last + 1 - first) (4 - d.arbiter.replies.length)
  e.arbiter.inTransmission = d.arbiter.inTransmission ∧
  e.arbiter.replies =
    d.arbiter.replies ++
      (List.range k).map (fun j => formReply tag t.code .done d.status (d.itemPayload t (first + j))) ∧
  e.responder =
    { d.responder with reading := if first + k ≤ last then some ⟨tag, t, first + k, last⟩ else none }

/-- The same, with nothing changed but the reply queue and the responder. -/
abbrev Device.TookPlainRead (tag : Word16) (t : ReadTarget) (first last : Nat) (d e : Device) : Prop :=
  Device.TookRead tag t first last d e ∧ e = { d with arbiter := e.arbiter, responder := e.responder }

/-- Between `d` and `e` nothing has changed but the counters of the five groups of Figure 9-4, the reply queue and the responder (R163). -/
abbrev Device.CountersMoved (d e : Device) : Prop :=
  (∀ l : Lane, (e.lane l).expected = (d.lane l).expected) ∧
  e =
    { d with
      receiver := { d.receiver with lanes := e.receiver.lanes }
      pens :=
        { d.pens with binds := e.pens.binds, evictions := e.pens.evictions, misses := e.pens.misses, tableFull := e.pens.tableFull }
      zones :=
        { d.zones with
          bankA := { d.zones.bankA with blocked := e.zones.bankA.blocked }
          bankB := { d.zones.bankB with blocked := e.zones.bankB.blocked } }
      router :=
        { d.router with
          coalescedSegs := e.router.coalescedSegs, droppedSegs := e.router.droppedSegs,
          suppressedStrokes := e.router.suppressedStrokes, truncatedStrokes := e.router.truncatedStrokes }
      framer :=
        { d.framer with
          framesBuilt := e.framer.framesBuilt, recordsFramed := e.framer.recordsFramed,
          deferredFlushes := e.framer.deferredFlushes }
      arbiter := e.arbiter
      responder := e.responder }

/-- Between `d` and `e` exactly the counters at positions `a` to `b - 1` of group `g` have been cleared, in both banks for the ZONE group
(R163). -/
abbrev Device.Cleared (g : BitVec 3) (a b : Nat) (d e : Device) : Prop :=
  let c := d.groupCounters g
  e.groupCounters g = c.take a ++ ((c.take b).drop a).map (fun _ => 0) ++ c.drop b ∧
  (∀ h : BitVec 3, h ≠ g → e.groupCounters h = d.groupCounters h) ∧
  (∀ z : ZoneNo,
    (e.zones.bank e.zones.other).blocked[z] =
      if g = 2 ∧ a ≤ z.val ∧ z.val < b then 0 else (d.zones.bank d.zones.other).blocked[z]) ∧
  d.CountersMoved e

/-- The zone records and the open-area record of the active bank: the layout in force. -/
abbrev ZoneTable.layout (z : ZoneTable) : Vector Zone 16 × ZoneRules := (z.activeBank.zones, z.activeBank.openArea)

/-- Whether a step is HARD_RESET. -/
def isHardReset (i : Instr) : Bool :=
  match i with
  | .hardReset _ => true
  | _ => false

/-- Whether a step may move the bank exchange: HARD_RESET, APPLY, and a COMMAND cell, whose command may be an APPLY. -/
def mayMoveLayout (i : Instr) : Bool :=
  match i with
  | .hardReset _ => true
  | .apply _ => true
  | .commandCell _ => true
  | _ => false

/-- Whether a step may move the session clock: HARD_RESET, the tick, SET TIME, and a COMMAND cell. -/
def mayMoveClock (i : Instr) : Bool :=
  match i with
  | .hardReset _ => true
  | .millisecondTick => true
  | .setTime _ _ => true
  | .commandCell _ => true
  | _ => false

end Sys2Proof.Machine
end

