-- ==== Sys2Proof/WellFormed.lean ====
section
/-! DEFINITION. Which terms of `Instr` name a step that the spec has. A row of a cell says what its 16 bytes are, so the cell must
classify as that row's cell (Figure 1-1); UNKNOWN_COMMAND's code must name no command (R159). Every other term is well formed: its
operands have exactly the widths of their fields (R179). -/

namespace Sys2Proof

/-- The bytes make a SAMPLE that passes its checks. -/
def isSampleCell (cell : Cell) : Bool :=
  match classify cell with
  | .sample _ _ _ => true
  | _ => false

/-- The bytes make a PROXIMITY that passes its checks. -/
def isProximityCell (cell : Cell) : Bool :=
  match classify cell with
  | .proximity _ _ _ _ => true
  | _ => false

/-- The bytes make a COMMAND that passes its checks. -/
def isCommandCell (cell : Cell) : Bool :=
  match classify cell with
  | .command _ => true
  | _ => false

/-- The bytes fail the CRC-8 check or are of unknown kind. -/
def isInvalidCell (cell : Cell) : Bool :=
  match classify cell with
  | .invalid _ => true
  | _ => false

/-- A step of the spec. -/
def Instr.wellFormed (i : Instr) : Bool :=
  match i with
  | .sample cell => isSampleCell cell
  | .proximity cell => isProximityCell cell
  | .commandCell cell => isCommandCell cell
  | .invalidCell cell => isInvalidCell cell
  | .unknownCommand code _ => !knownCode code
  | .hardReset _ => true
  | .linkValidFalls => true
  | .linkValidRises => true
  | .millisecondTick => true
  | .presenceExpiry _ => true
  | .liftHoldExpiry _ => true
  | .pacerExpiry => true
  | .noticePulseEnd => true
  | .overlayTxBegin _ => true
  | .overlayTxComplete => true
  | .shareEgressBegin _ => true
  | .replyTxComplete => true
  | .frameTxComplete => true
  | .rangeReadNextItem => true
  | .readStatus _ => true
  | .readCounters _ _ _ => true
  | .clearCounters _ => true
  | .restart _ => true
  | .readTime _ => true
  | .setTime _ _ => true
  | .writeAdmission _ _ _ _ _ _ _ => true
  | .readAdmission _ _ _ => true
  | .writeProfile _ _ _ => true
  | .readProfile _ _ _ => true
  | .writeCurve _ _ _ => true
  | .readCurve _ _ _ => true
  | .readSlot _ _ _ _ => true
  | .writeSlotParameters _ _ _ _ => true
  | .setOffset _ _ _ _ => true
  | .setSlotEnable _ _ _ => true
  | .unbind _ _ => true
  | .forceLeave _ _ => true
  | .captureOffset _ _ _ _ => true
  | .cancelCapture _ _ => true
  | .writeSettings _ _ _ => true
  | .readSettings _ => true
  | .writeZoneRect _ _ _ _ _ _ => true
  | .writeZoneAttributes _ _ _ _ => true
  | .writeOpenArea _ _ => true
  | .readZone _ _ _ _ => true
  | .apply _ => true
  | .retireNow _ => true
  | .lockLayout _ => true
  | .readLayout _ => true
  | .readStroke _ _ _ _ => true
  | .writeIdentity _ _ _ => true
  | .shareEnable _ => true
  | .shareDisable _ => true
  | .setPacing _ _ _ => true
  | .flush _ => true
  | .readShare _ => true
  | .fetch _ => true
  | .ack _ _ _ => true
  | .setLevel _ _ _ => true
  | .setLineThreshold _ _ => true

end Sys2Proof
end

