-- ==== Sys2Proof/Certificates/Slice0/Obligations.lean ====
section
/-! DEFINITION. The statements for the provers, in the terms of Sys2Proof/Safety.lean. Each docstring names the rules it comes from. -/

open Sys2Proof Sys2Proof.Machine

/-! ## The machine and its reset -/

/-- A step runs the step at the front of the queue on the rest of it, and an empty queue changes nothing (log entry 6). -/
def Obligations.StepRunsFrontOfQueue : Prop :=
  ∀ (c : Instr) (rest : List Instr) (d : Device), step ⟨d, c :: rest⟩ = exec c ⟨d, rest⟩ ∧ step ⟨d, []⟩ = .next ⟨d, []⟩

/-- Every step answers a next state, with the steps that wait behind it as they were. The spec names nothing that stops the device (DEDUCED,
log entry 12), and the queue of waiting steps is the model's own, which no step touches (DESIGN CHOICE, log entry 6). -/
def Obligations.EveryStepCompletes : Prop :=
  ∀ (i : Instr) (s : State), ∃ e, exec i s = .next ⟨e, s.pending⟩

/-- HARD_RESET leaves the values of the hard-reset columns of Figures 1-3, 2-4, 4-4, 5-9, 6-9, 7-3, 8-2, 9-8 and 10-2, every stroke context
closed in each field of Figure 5-10 and every summary in each field of Figure 5-8. -/
def Obligations.HardResetSetsEveryValue : Prop :=
  ∀ (v : Bool) (s : State),
    Leads (.hardReset v) s fun e =>
      e.receiver.link = (if v then .up else .down) ∧ e.receiver.ingressReady = v ∧ (∀ l : Lane, e.lane l = ⟨none, 0, 0⟩) ∧
      e.clock = 0 ∧
      (∀ i : Fin 8, e.pens.admission[i] = ⟨false, 0, 0, .student, 0, 0, 0⟩) ∧
      (∀ i : Fin 4, e.pens.profiles[i] = ⟨300, 200, 2, 12, 2, 8, 0, 120, true⟩) ∧
      (∀ i : Fin 4, e.pens.curves[i] = #v[10, 12, 14, 16, 18, 20, 22, 24, 26]) ∧
      e.pens.presenceCount = 20 ∧ e.pens.guestAdmission = false ∧
      e.pens.binds = 0 ∧ e.pens.evictions = 0 ∧ e.pens.misses = 0 ∧ e.pens.tableFull = 0 ∧
      (∀ i : Slot,
        e.slot i =
            { enabled := true, binding := .free, transducer := 0, lane := 0, role := .student, group := 0, colour := 0,
              params := ⟨300, 200, 2, 12, 2, 8, 0, 120, true⟩, offsetX := 0, offsetY := 0, captureArmed := false, targetX := 0,
              targetY := 0, lastSeen := 0 } ∧
          e.contact i = ⟨.free, 0, .ended, 0, none, none, 0⟩ ∧ e.filter i = ⟨0, 0⟩ ∧
          e.context i =
            { isOpen := false, id := 0, role := .student, group := 0, colour := 0, penEnd := .tip, zone := 0, generation := 0,
              steering := .off, widthCap := 0, openTime := 0, sequence := 0, count := 0, lastX := 0, lastY := 0, lastWidth := 0,
              laneGap := false, continued := false } ∧
          e.summary i =
            { id := 0, reason := .noReason, count := 0, penEnd := .tip, zone := 0, generation := 0, openTime := 0, closeTime := 0,
              flags := ⟨false, false, false, false, false, false⟩ }) ∧
      (∀ (b : Fin 2) (z : Fin 16),
        ((e.zones.bank (if b = 0 then .a else .b)).zones[z]) =
          ⟨false, 0, 0, 0, 0, ⟨⟨.off, .off, .off, .off⟩, false, false, 0⟩⟩) ∧
      (∀ b : Fin 2,
        (e.zones.bank (if b = 0 then .a else .b)).openArea =
            ⟨⟨.localInk, .localInk, .localInk, .localInk⟩, true, false, 0⟩ ∧
          (e.zones.bank (if b = 0 then .a else .b)).bindings = 0 ∧
          ∀ z : ZoneNo, (e.zones.bank (if b = 0 then .a else .b)).blocked[z] = 0) ∧
      e.zones.active = .a ∧ e.zones.generation = 0 ∧ e.zones.apply = .idle ∧ e.zones.locked = false ∧
      e.strokes.candidate = 1 ∧
      e.router = ⟨[], [], none, [], 0, 0, 0, 0⟩ ∧
      e.framer.state = .disabled ∧ e.framer.written = false ∧ e.framer.classroom = 0 ∧ e.framer.board = 0 ∧
      e.framer.period = 20 ∧ e.framer.fine = 0 ∧ e.framer.cycle = 0 ∧ e.framer.timer = none ∧ e.framer.pendingFlush = false ∧
      e.framer.nextSequence = 0 ∧ (∀ b : Fin 2, e.framer.buffers[b] = .empty) ∧
      e.framer.framesBuilt = 0 ∧ e.framer.recordsFramed = 0 ∧ e.framer.deferredFlushes = 0 ∧
      e.arbiter = ⟨[], none⟩ ∧ e.responder = ⟨[], false, none⟩ ∧
      e.notices.entries = [] ∧ (∀ k : Fin 13, e.notices.levels[k] = 1) ∧ e.notices.threshold = 1 ∧ e.notices.overrun = false ∧
      e.notices.line = .released

/-- The state after reset, whichever level the link-valid line has, keeps every promise of Safety.lean. -/
def Obligations.ResetStateIsSound : Prop :=
  State.reset.pending = [] ∧ State.reset.dev.Sound ∧ ∀ v : Bool, (hardResetDevice v).Sound

/-! ## The link, the tick and arriving cells (Chapter 1) -/

/-- The fall of the link-valid line takes every pen out of range and closes every open stroke with LOST at the session clock, the CLOSE records
handed to the router in ascending order of slot; its rise sets UP
and the ready line and lets every lane accept any sequence number next, all else kept (R1 to R3, R8). -/
def Obligations.LinkLineTakesPensOutOfRange : Prop :=
  ∀ (s : State) (l : Lane) (n : BitVec 4),
    (s.dev.SlotsSound →
      Leads .linkValidFalls s (fun e =>
        e.receiver = { s.dev.receiver with link := .down, ingressReady := false } ∧
        e.clock = s.dev.clock ∧ e.pens = s.dev.pens ∧ e.filters = s.dev.filters ∧ e.responder = s.dev.responder ∧
        e.arbiter = s.dev.arbiter ∧ e.zones.active = s.dev.zones.active ∧ e.zones.generation = s.dev.zones.generation ∧
        e.zones.locked = s.dev.zones.locked ∧ e.framer.state = s.dev.framer.state ∧ e.framer.timer = s.dev.framer.timer ∧
        e.strokes.candidate = s.dev.strokes.candidate ∧
        (let m := s.dev.closesRouted (fun _ => .lost) (fun _ => s.dev.clock) (allSlots.filter fun j => (s.dev.context j).isOpen)
         e.router = m.router ∧ e.framer = m.framer) ∧
        ∀ i : Slot,
          ((s.dev.contact i).state = .free ∨ (s.dev.contact i).state = .away → e.contact i = s.dev.contact i) ∧
          ((s.dev.contact i).state ≠ .free ∧ (s.dev.contact i).state ≠ .away →
            (e.contact i).state = .away ∧ (e.contact i).presence = none ∧ (e.contact i).liftHold = none ∧
            (e.contact i).shortContacts = (s.dev.contact i).shortContacts) ∧
          ((s.dev.context i).isOpen = true →
            e.context i = StrokeContext.closed ∧ (e.summary i).id = (s.dev.context i).id ∧ (e.summary i).reason = .lost ∧
            (e.summary i).count = (s.dev.context i).count ∧ (e.summary i).openTime = (s.dev.context i).openTime ∧
            (e.summary i).closeTime = s.dev.clock) ∧
          ((s.dev.context i).isOpen = false → e.context i = s.dev.context i ∧ e.summary i = s.dev.summary i))) ∧
    Leads .linkValidRises s (fun e =>
      e.receiver.link = .up ∧ e.receiver.ingressReady = true ∧ (e.lane l).passes n = true ∧
      e.lane l = { s.dev.lane l with expected := none } ∧ e = { s.dev with receiver := e.receiver })

/-- With nothing due, the tick adds one to the session clock, takes one tick off every running timer, and does nothing else, so a timer of `n`
ticks is due after `n` of them. What the last tick made due, and no step has taken since, expires before the clock moves on: a lift-hold with
LIFT at the lift time, a presence timer with LOST at the session clock before this tick, the pacer with its next period (R11, R12, R45, R53,
R143). That a due timer waits for the next tick, and which of two goes first, is the model's choice (log entry 3). -/
def Obligations.TicksAdvanceClockAndTimers : Prop :=
  ∀ (s : State) (n : Nat) (i : Slot),
    let less := fun x : Option Nat => x.map (· - 1)
    let c := s.dev.contact i
    let k := s.dev.context i
    let f := s.dev.framer
    let gone := c.presence = some 0
    let lifted := c.state = .holding ∧ c.liftHold = some 0
    (¬s.dev.AnyDue →
      Becomes .millisecondTick s
        { s.dev with
          clock := s.dev.clock + 1
          contacts := s.dev.contacts.map fun c => { c with liftHold := less c.liftHold, presence := less c.presence }
          framer := { f with timer := less f.timer } }) ∧
    (s.dev.SlotsSound → s.dev.ShareSound →
      Leads .millisecondTick s fun e =>
        e.clock = s.dev.clock + 1 ∧
        (gone →
          (e.contact i).state = .away ∧ (e.contact i).presence = none ∧ (e.contact i).liftHold = none ∧
            (e.contact i).shortContacts = c.shortContacts) ∧
        (¬gone → lifted → e.contact i = { c with state := .hover, liftHold := none, presence := less c.presence }) ∧
        (¬gone → ¬lifted →
          e.contact i = { c with liftHold := less c.liftHold, presence := less c.presence } ∧ e.context i = k ∧
            e.summary i = s.dev.summary i) ∧
        (gone ∨ lifted → k.isOpen = true →
          e.context i = StrokeContext.closed ∧ (e.summary i).id = k.id ∧
            (e.summary i).reason = (if lifted then .lift else .lost) ∧ (e.summary i).count = k.count ∧
            (e.summary i).openTime = k.openTime ∧ (e.summary i).closeTime = if lifted then c.liftTime else s.dev.clock) ∧
        (gone ∨ lifted → k.isOpen = false → e.context i = k ∧ e.summary i = s.dev.summary i) ∧
        (if f.timer = some 0 then
          e.framer.cycle = f.cycle + 1 ∧ e.framer.timer = some (f.period.toNat + (if f.cycle + 1 < f.fine then 1 else 0) - 1)
        else e.framer.cycle = f.cycle ∧ e.framer.timer = less f.timer) ∧
        (let lifts := fun j : Slot => (s.dev.contact j).state = .holding ∧ (s.dev.contact j).liftHold = some 0
         let m :=
          s.dev.closesRouted (fun j => if lifts j then .lift else .lost)
            (fun j => if lifts j then (s.dev.contact j).liftTime else s.dev.clock)
            (allSlots.filter fun j => s.dev.SlotDue j ∧ (s.dev.context j).isOpen = true)
         let p := if f.timer = some 0 then m.flushTrigger else m
         e.router = p.router ∧ e.framer = { p.framer with cycle := e.framer.cycle, timer := e.framer.timer }) ∧
        e.receiver = s.dev.receiver ∧ e.pens = s.dev.pens ∧ e.filters = s.dev.filters ∧ e.responder = s.dev.responder ∧
        e.arbiter = s.dev.arbiter ∧ e.framer.state = f.state ∧ e.strokes.candidate = s.dev.strokes.candidate ∧
        e.zones.active = s.dev.zones.active ∧ e.zones.generation = s.dev.zones.generation ∧
        e.zones.locked = s.dev.zones.locked) ∧
    (Nat.iterate Device.tick n s.dev).clock = s.dev.clock + BitVec.ofNat 32 n ∧
    ((Nat.iterate Device.tick n s.dev).contact i).presence = (s.dev.contact i).presence.map (· - n) ∧
    ((Nat.iterate Device.tick n s.dev).contact i).liftHold = (s.dev.contact i).liftHold.map (· - n) ∧
    (Nat.iterate Device.tick n s.dev).framer.timer = s.dev.framer.timer.map (· - n) ∧
    ((∀ m : Nat, m < n → ¬(Nat.iterate Device.tick m s.dev).AnyDue) →
      Nat.iterate Device.millisecond n s.dev = Nat.iterate Device.tick n s.dev)

/-- While the link is DOWN every cell is discarded unread (R1); while it is UP a cell that fails its CRC-8, has an undefined kind byte, or
is a PROXIMITY with an undefined event is dropped, counted against its lane and posted, its lane's expected value kept (R4, R5). -/
def Obligations.UnfitCellsAreDropped : Prop :=
  ∀ (s : State) (cell : Cell),
    (s.dev.receiver.link = .down →
      Becomes (.sample cell) s s.dev ∧ Becomes (.proximity cell) s s.dev ∧ Becomes (.commandCell cell) s s.dev ∧
      Becomes (.invalidCell cell) s s.dev) ∧
    (s.dev.receiver.link = .up →
      (Cell.check cell ≠ cell[15] ∨ (cell[0] ≠ 0xD1 ∧ cell[0] ≠ 0xD2 ∧ cell[0] ≠ 0xD7) ∨
        (cell[0] = 0xD2 ∧ cell[5] ≠ 0x01 ∧ cell[5] ≠ 0x02)) →
      Leads (.invalidCell cell) s fun e =>
        (e.lane (Cell.lane cell)).badCells = satInc (s.dev.lane (Cell.lane cell)).badCells ∧
        (e.lane (Cell.lane cell)).gaps = (s.dev.lane (Cell.lane cell)).gaps ∧
        (∀ l : Lane, (e.lane l).expected = (s.dev.lane l).expected ∧ (l ≠ Cell.lane cell → e.lane l = s.dev.lane l)) ∧
        e.notices = s.dev.notices.post .cellError (laneSubject (Cell.lane cell)) ∧
        e = { s.dev with receiver := { s.dev.receiver with lanes := e.receiver.lanes }, notices := e.notices })

/-- A SAMPLE or PROXIMITY cell moves its lane's expected value to its own number plus one, a cell out of sequence counts one gap, and
other lanes are left alone, whatever becomes of the cell (R8, R9). A LEAVE of an unbound pen does nothing else, so a gap it shows posts
LANE_GAP and marks exactly the open strokes of pens on its lane (R9, R23, R98). -/
def Obligations.LaneCheckCountsGapsAndMarksStrokes : Prop :=
  ∀ (s : State) (cell : Cell) (l : Lane) (n : BitVec 4) (f : SampleFields) (t : Word24) (ev : ProximityEvent),
    s.dev.receiver.link = .up →
    (classify cell = .sample l n f →
      Leads (.sample cell) s fun e =>
        e.lane l = ⟨some (n + 1), (s.dev.lane l).badCells,
          if (s.dev.lane l).passes n then (s.dev.lane l).gaps else satInc (s.dev.lane l).gaps⟩ ∧
        (∀ m : Lane, m ≠ l → e.lane m = s.dev.lane m) ∧ e.receiver.link = .up ∧ e.clock = s.dev.clock) ∧
    (classify cell = .proximity l n t ev →
      Leads (.proximity cell) s fun e =>
        e.lane l = ⟨some (n + 1), (s.dev.lane l).badCells,
          if (s.dev.lane l).passes n then (s.dev.lane l).gaps else satInc (s.dev.lane l).gaps⟩ ∧
        (∀ m : Lane, m ≠ l → e.lane m = s.dev.lane m) ∧ e.receiver.link = .up ∧ e.clock = s.dev.clock) ∧
    (classify cell = .proximity l n t .leave → s.dev.slotOfPen t = none →
      Leads (.proximity cell) s fun e =>
        e.notices = (if (s.dev.lane l).passes n then s.dev.notices else s.dev.notices.post .laneGap (laneSubject l)) ∧
        (∀ i : Slot,
          e.context i =
            if (s.dev.lane l).passes n = false ∧ (s.dev.context i).isOpen = true ∧ (s.dev.slot i).lane = l then
              { s.dev.context i with laneGap := true }
            else s.dev.context i) ∧
        e =
          { s.dev with
            receiver := e.receiver
            notices := e.notices
            strokes := { s.dev.strokes with contexts := e.strokes.contexts } })

/-! ## Pens and slots (Chapter 2) -/

/-- A pen whose id no enabled entry matches where its mask holds a 1 is refused while guest admission is off: the cell moves its lane and is
dropped, the miss counted and posted (R17, R18). A pen that finds neither a free nor an AWAY slot is refused likewise with PEN_TABLE_FULL
(R24). -/
def Obligations.RefusedPensChangeNoSlot : Prop :=
  ∀ (s : State) (cell : Cell) (l : Lane) (n : BitVec 4) (f : SampleFields) (t : Word24),
    (s.dev.pens.termsFor t = none ↔
      s.dev.pens.guestAdmission = false ∧ ∀ j : Fin 8, ¬(s.dev.pens.admission[j]).Matches t) ∧
    (s.dev.receiver.link = .up → s.dev.slotOfPen t = none → s.dev.pens.termsFor t = none →
      (classify cell = .sample l n f → f.transducer = t →
        Becomes (.sample cell) s
          { s.dev.checkSequence l n with
            pens := { s.dev.pens with misses := satInc s.dev.pens.misses }
            notices := (s.dev.checkSequence l n).notices.post .unknownPen (laneSubject l) }) ∧
      (classify cell = .proximity l n t .enter →
        Becomes (.proximity cell) s
          { s.dev.checkSequence l n with
            pens := { s.dev.pens with misses := satInc s.dev.pens.misses }
            notices := (s.dev.checkSequence l n).notices.post .unknownPen (laneSubject l) })) ∧
    (s.dev.receiver.link = .up → s.dev.slotOfPen t = none → s.dev.pens.termsFor t ≠ none →
      (∀ i : Slot, ¬((s.dev.slot i).enabled = true ∧ (s.dev.slot i).binding = .free) ∧ (s.dev.contact i).state ≠ .away) →
      (classify cell = .sample l n f → f.transducer = t →
        Becomes (.sample cell) s
          { s.dev.checkSequence l n with
            pens := { s.dev.pens with tableFull := satInc s.dev.pens.tableFull }
            notices := (s.dev.checkSequence l n).notices.post .penTableFull (laneSubject l) }) ∧
      (classify cell = .proximity l n t .enter →
        Becomes (.proximity cell) s
          { s.dev.checkSequence l n with
            pens := { s.dev.pens with tableFull := satInc s.dev.pens.tableFull }
            notices := (s.dev.checkSequence l n).notices.post .penTableFull (laneSubject l) }))

/-- An unbound pen that ENTERs or sends a SAMPLE has the terms of the lowest matching entry or of a guest, and takes the lowest enabled FREE
slot, or else evicts the AWAY pen of the greatest age, the lowest-numbered among equals; the slot takes the pen, its terms and a copy of the
profile, and goes to HOVER with its presence timer running. The SAMPLE is then taken there: it does no more below the down threshold, and else
begins a contact, which opens a stroke, begins a settle, or is blocked (R13, R17, R18, R23, R24, R41, R45, R48, R49). -/
def Obligations.NewPenTakesFreeOrOldestSlot : Prop :=
  ∀ (s : State) (cell : Cell) (l : Lane) (n : BitVec 4) (f : SampleFields) (t : Word24) (a : Admission) (i : Slot),
    let d := s.dev.checkSequence l n
    let q : Sample := ⟨f, s.dev.clock⟩
    let free := fun j : Slot => (s.dev.slot j).enabled = true ∧ (s.dev.slot j).binding = .free
    let evicts := ∀ j : Slot, ¬free j
    let bound := fun e : Device =>
      e.slot i =
        { s.dev.slot i with
          binding := .bound, transducer := t, lane := l, role := a.role, group := a.group, colour := a.colour,
          params := s.dev.pens.profiles[index4 a.profile], offsetX := 0, offsetY := 0, captureArmed := false, targetX := 0,
          targetY := 0, lastSeen := s.dev.clock } ∧
      e.contact i = ⟨.hover, 0, .ended, 0, none, some (10 * s.dev.pens.presenceCount.toNat), 0⟩ ∧
      (if evicts then
        e.notices = (d.notices.post .penEvicted (slotSubject i)).post .penBound (slotSubject i) ∧
          e.pens.evictions = satInc s.dev.pens.evictions ∧ e.filter i = ⟨0, 0⟩
      else
        e.notices = d.notices.post .penBound (slotSubject i) ∧ e.pens.evictions = s.dev.pens.evictions ∧
          e.filter i = s.dev.filter i) ∧
      e.pens.binds = satInc s.dev.pens.binds ∧
      e.pens = { s.dev.pens with slots := e.pens.slots, binds := e.pens.binds, evictions := e.pens.evictions } ∧
      e = { d with pens := e.pens, contacts := e.contacts, filters := e.filters, notices := e.notices } ∧ d.OthersKept i e
    (s.dev.pens.termsFor t = some a ↔ s.dev.pens.Gives t a) ∧
    (s.dev.receiver.link = .up → s.dev.slotOfPen t = none → s.dev.pens.Gives t a →
      (free i ∧ (∀ j : Slot, j < i → ¬free j)) ∨
        (evicts ∧ (s.dev.contact i).state = .away ∧
          ∀ j : Slot, (s.dev.contact j).state = .away →
            s.dev.age (s.dev.slot j).lastSeen < s.dev.age (s.dev.slot i).lastSeen ∨
              s.dev.age (s.dev.slot j).lastSeen = s.dev.age (s.dev.slot i).lastSeen ∧ i ≤ j) →
      (classify cell = .proximity l n t .enter → Leads (.proximity cell) s bound) ∧
      (classify cell = .sample l n f → f.transducer = t →
        ∃ b : Device,
          bound b ∧ b.slotOfPen t = some i ∧
          (f.pressure < (b.slot i).params.down → Becomes (.sample cell) s b) ∧
          (¬f.pressure < (b.slot i).params.down →
            (b.allows i (b.effectiveEnd i q) (b.activeZone i q) = false →
              Leads (.sample cell) s (Device.ContactBlocked i q b)) ∧
            (b.allows i (b.effectiveEnd i q) (b.activeZone i q) = true →
              ((b.slot i).params.settleCount = 0 → Leads (.sample cell) s (Device.StrokeBegun i q b)) ∧
              ((b.slot i).params.settleCount ≠ 0 → Becomes (.sample cell) s (b.settleBegun i q))))))

/-- A cell of a bound pen records its stamp and lane and restarts the presence timer. A sample below the down threshold and an ENTER do
no more than that, but for bringing an AWAY pen to HOVER; a sample of any pressure finds an AWAY pen as if it were in HOVER already (R22,
R45, R47, R48). -/
def Obligations.PenCellsRefreshPresence : Prop :=
  ∀ (s : State) (cell : Cell) (i : Slot) (l : Lane) (n : BitVec 4) (f : SampleFields) (t : Word24),
    (s.dev.received i l n).slot i = { s.dev.slot i with lastSeen := s.dev.clock, lane := l } ∧
    (s.dev.received i l n).contact i =
      { s.dev.contact i with presence := some (10 * s.dev.pens.presenceCount.toNat) } ∧
    (SampleFor s cell i l n f → f.pressure < (s.dev.slot i).params.down →
      ((s.dev.contact i).state = .hover → Becomes (.sample cell) s (s.dev.received i l n)) ∧
      ((s.dev.contact i).state = .away → Becomes (.sample cell) s ((s.dev.received i l n).setState i .hover))) ∧
    (SampleFor s cell i l n f → (s.dev.contact i).state = .away →
      exec (.sample cell) s = exec (.sample cell) ⟨s.dev.setState i .hover, s.pending⟩) ∧
    (ProximityFor s cell i l n t .enter →
      ((s.dev.contact i).state = .away → Becomes (.proximity cell) s ((s.dev.received i l n).setState i .hover)) ∧
      ((s.dev.contact i).state ≠ .away → (s.dev.contact i).state ≠ .free →
        Becomes (.proximity cell) s (s.dev.received i l n)))

/-- A LEAVE, a presence expiry and FORCE LEAVE take a slot to AWAY. An open stroke closes: LOST at the stamp or at the expiry, LIFT at the
lift time for a LEAVE in HOLDING, FORCED at the execution for FORCE LEAVE, its CLOSE record handed to the router, its binding released and its
summary left (R36, R45, R57, R67, R93, R94, R99). -/
def Obligations.LeavingRangeClosesStroke : Prop :=
  ∀ (s : State) (cell : Cell) (i : Slot) (l : Lane) (n : BitVec 4) (t : Word24) (tag : Word16),
    s.dev.SlotsSound →
    (ProximityFor s cell i l n t .leave →
      Leads (.proximity cell) s fun e =>
        Device.LeftRange i (if (s.dev.contact i).state = .holding then .lift else .lost)
            (if (s.dev.contact i).state = .holding then (s.dev.contact i).liftTime else s.dev.clock) (s.dev.reached i l n) e ∧
          (s.dev.reached i l n).SurroundingsKept e) ∧
    ((s.dev.contact i).presence = some 0 →
      Leads (.presenceExpiry i) s fun e => Device.LeftRange i .lost s.dev.clock s.dev e ∧ s.dev.SurroundingsKept e) ∧
    (s.dev.Ready → (s.dev.slot i).binding = .bound →
      Leads (.forceLeave tag (BitVec.ofNat 4 i.val)) s fun e =>
        Device.LeftRange i .forced s.dev.clock s.dev e ∧ e.pens = s.dev.pens ∧ e.responder = s.dev.responder ∧
          e.arbiter =
            { s.dev.arbiter with replies := s.dev.arbiter.replies ++ [formReply tag 0x2B .done e.status []] })

/-! ## Contacts and strokes (Chapters 3 and 5)

In these statements `d` is the device once the cell has passed its lane check and been recorded at its slot, `q` the sample as the slot
takes it, and `u` the unit point it yields. -/

/-- A contact begun in HOVER or AWAY where the zone allows the pen and no capture is armed opens a stroke at the corrected point where the
settle count is 0, and otherwise goes to SETTLING with the counter at that count and the filter seeded (R47, R49, R63, R85, R87). -/
def Obligations.ContactBeginOpensStroke : Prop :=
  ∀ (s : State) (cell : Cell) (i : Slot) (l : Lane) (n : BitVec 4) (f : SampleFields),
    let d := s.dev.received i l n
    let q : Sample := ⟨f, s.dev.clock⟩
    SampleFor s cell i l n f → (s.dev.contact i).state = .hover ∨ (s.dev.contact i).state = .away →
    ¬f.pressure < (s.dev.slot i).params.down →
    d.allows i (d.effectiveEnd i q) (d.activeZone i q) = true → (s.dev.slot i).captureArmed = false →
    ((s.dev.slot i).params.settleCount = 0 → Leads (.sample cell) s (Device.StrokeBegun i q d)) ∧
    ((s.dev.slot i).params.settleCount ≠ 0 → Becomes (.sample cell) s (d.settleBegun i q))

/-- A contact begun in HOVER or AWAY that the zone refuses goes to BLOCKED with the filter seeded; a protected zone counts it in the active
bank and posts PROTECTED_BLOCK, another zone does neither (R44, R47, R49, R65). -/
def Obligations.RefusedContactIsBlocked : Prop :=
  ∀ (s : State) (cell : Cell) (i : Slot) (l : Lane) (n : BitVec 4) (f : SampleFields),
    let d := s.dev.received i l n
    let q : Sample := ⟨f, s.dev.clock⟩
    SampleFor s cell i l n f → (s.dev.contact i).state = .hover ∨ (s.dev.contact i).state = .away →
    ¬f.pressure < (s.dev.slot i).params.down → d.allows i (d.effectiveEnd i q) (d.activeZone i q) = false →
    Leads (.sample cell) s (Device.ContactBlocked i q d)

/-- A slot in SETTLING: a sample below the effective up threshold is a short contact; another is smoothed and counted; the last one opens
a stroke at the smoothed unit point where its zone allows the pen, with its OPEN record routed, and blocks the slot with the accounting of R44
where it does not (R42, R44, R50, R85 to R87). -/
def Obligations.SettleCountsDownToStroke : Prop :=
  ∀ (s : State) (cell : Cell) (i : Slot) (l : Lane) (n : BitVec 4) (f : SampleFields),
    let d := s.dev.received i l n
    let q : Sample := ⟨f, s.dev.clock⟩
    let v := smoothValue (s.dev.slot i).params.smoothing.toNat (d.corrected i q) (s.dev.filter i)
    let z := d.activeZone i q
    SampleFor s cell i l n f → (s.dev.contact i).state = .settling →
    (f.pressure < effectiveUp (s.dev.slot i).params →
      Becomes (.sample cell) s
        (d.setContact i
          { d.contact i with state := .hover, settle := 0, shortContacts := satInc (s.dev.contact i).shortContacts })) ∧
    (¬f.pressure < effectiveUp (s.dev.slot i).params →
      (1 < (s.dev.contact i).settle →
        Becomes (.sample cell) s
          ((d.setFilter i v).setContact i { d.contact i with settle := (s.dev.contact i).settle - 1 })) ∧
      ((s.dev.contact i).settle = 1 →
        Leads (.sample cell) s fun e =>
          e.filter i = v ∧ e.summary i = d.summary i ∧
          (if d.allows i (d.effectiveEnd i q) z then
            e.contact i = { d.contact i with state := .inking, settle := 0 } ∧
              Device.StrokeOpened i (d.effectiveEnd i q) z v.unitPoint q false d e
          else
            e.contact i = { d.contact i with state := .blocked, settle := 0 } ∧ d.RefusalCounted z e ∧
              e = { d with contacts := e.contacts, filters := e.filters, notices := e.notices, zones := e.zones }) ∧
          d.OthersKept i e ∧ d.SurroundingsKept e))

/-- A slot with capture armed measures its offset. The contact begin starts the wait; each sample at or above the effective up threshold
counts; the last sets the offset to the target minus the raw point, within -512 to +511, disarms capture and posts OFFSET_CAPTURED; once
ENDED, samples are ignored; a sample below the threshold returns to HOVER with the slot's record kept (R37, R47, R49, R56). That the counter is
then 0 and the wait ENDED is the model's inference (DEDUCED, log entry 9). -/
def Obligations.CaptureMeasuresOffset : Prop :=
  ∀ (s : State) (cell : Cell) (i : Slot) (l : Lane) (n : BitVec 4) (f : SampleFields),
    let d := s.dev.received i l n
    let q : Sample := ⟨f, s.dev.clock⟩
    let p := s.dev.slot i
    let captured := fun e : Device =>
      e.slot i =
        { d.slot i with
          offsetX := max (-512) (min 511 ((p.targetX.toNat : Int) - f.x.toNat))
          offsetY := max (-512) (min 511 ((p.targetY.toNat : Int) - f.y.toNat))
          captureArmed := false } ∧
      e.contact i = { d.contact i with state := .capture, settle := 0, wait := .ended } ∧
      e.notices = d.notices.post .offsetCaptured (slotSubject i) ∧ e.strokes = d.strokes ∧ e.router = d.router ∧
      e.zones = d.zones ∧ d.OthersKept i e
    SampleFor s cell i l n f →
    ((s.dev.contact i).state = .hover ∨ (s.dev.contact i).state = .away → ¬f.pressure < p.params.down →
      d.allows i (d.effectiveEnd i q) (d.activeZone i q) = true → p.captureArmed = true →
      (p.params.settleCount = 0 →
        Leads (.sample cell) s fun e => captured e ∧ e.filter i = seedValue (d.corrected i q)) ∧
      (p.params.settleCount ≠ 0 →
        Becomes (.sample cell) s
          ((d.setFilter i (seedValue (d.corrected i q))).setContact i
            { d.contact i with state := .capture, wait := .waiting, settle := p.params.settleCount.toNat }))) ∧
    ((s.dev.contact i).state = .capture →
      (f.pressure < effectiveUp p.params →
        Becomes (.sample cell) s (d.setContact i { d.contact i with state := .hover, settle := 0, wait := .ended })) ∧
      (¬f.pressure < effectiveUp p.params →
        ((s.dev.contact i).wait = .ended → Becomes (.sample cell) s d) ∧
        ((s.dev.contact i).wait = .waiting → 1 < (s.dev.contact i).settle →
          Becomes (.sample cell) s (d.setContact i { d.contact i with settle := (s.dev.contact i).settle - 1 })) ∧
        ((s.dev.contact i).wait = .waiting → (s.dev.contact i).settle = 1 →
          Leads (.sample cell) s fun e => captured e ∧ e.filter i = d.filter i)))

/-- An INKING sample of the stroke's own end in its bound zone is smoothed. When it is due, a SEG runs from the last emitted point to the
unit point and is offered to the overlay queue if the stroke is overlay-live, and to the share queue if it is share-live and not truncated:
there it enters with the six-record trigger, or cuts the stroke short with SHARE_OVERFLOW. When it is not due, context, queues and notices
stay as they are (R51, R88, R111, R118, R120, R125, R140). -/
def Obligations.InkInZoneContinuesStroke : Prop :=
  ∀ (s : State) (cell : Cell) (i : Slot) (l : Lane) (n : BitVec 4) (f : SampleFields),
    let d := s.dev.received i l n
    let q : Sample := ⟨f, s.dev.clock⟩
    let v := smoothValue (s.dev.slot i).params.smoothing.toNat (d.corrected i q) (s.dev.filter i)
    let u := v.unitPoint
    let k := d.context i
    let dx : Int := (u.x.toNat : Int) - k.lastX.toNat
    let dy : Int := (u.y.toNat : Int) - k.lastY.toNat
    let w := d.widthFor i k.penEnd f.pressure k.widthCap
    let seg : SegRecord := ⟨k.id, k.sequence + 1, k.lastX, k.lastY, u.x, u.y, w, s.dev.clock.setWidth 16⟩
    SampleFor s cell i l n f → (s.dev.contact i).state = .inking → ¬f.pressure < effectiveUp (s.dev.slot i).params →
    d.effectiveEnd i q = k.penEnd → d.boundBankZone i q = k.zone →
    ((dx = 0 ∧ dy = 0 ∨ dx * dx + dy * dy < ((s.dev.slot i).params.minStep.toNat : Int) ^ 2) →
      Becomes (.sample cell) s (d.setFilter i v)) ∧
    (¬(dx = 0 ∧ dy = 0) → ((s.dev.slot i).params.minStep.toNat : Int) ^ 2 ≤ dx * dx + dy * dy →
      Leads (.sample cell) s fun e =>
        e.filter i = v ∧ e.contact i = d.contact i ∧ e.summary i = d.summary i ∧
        e.context i =
          { k with
            sequence := k.sequence + 1, count := satInc k.count, lastX := u.x, lastY := u.y, lastWidth := w } ∧
        Device.SegOffered i seg d e ∧ e.strokes.candidate = d.strokes.candidate ∧ d.OthersKept i e ∧ d.SurroundingsKept e ∧
        e =
          { d with
            filters := e.filters, strokes := e.strokes, router := e.router, framer := e.framer, notices := e.notices })

/-- An INKING sample that leaves its zone closes the stroke with ZONE_EXIT at the stamp. Where the new zone allows the pen a continuation begins
at the split point, after a final SEG where that point differs; where it refuses, the slot is blocked with the accounting of R44, without a
final SEG. SEG, CLOSE and OPEN are handed to the router in this order (R51, R85, R90, R91, R93). That a refused split closes before it
counts is the model's inference (DEDUCED, log entry 11). -/
def Obligations.ZoneExitSplitsOrBlocks : Prop :=
  ∀ (s : State) (cell : Cell) (i : Slot) (l : Lane) (n : BitVec 4) (f : SampleFields),
    let d := s.dev.received i l n
    let now := s.dev.clock
    let q : Sample := ⟨f, now⟩
    let v := smoothValue (s.dev.slot i).params.smoothing.toNat (d.corrected i q) (s.dev.filter i)
    let u := v.unitPoint
    let k := d.context i
    let z := d.activeZone i q
    let w := d.widthFor i k.penEnd f.pressure k.widthCap
    let seg : SegRecord := ⟨k.id, k.sequence + 1, k.lastX, k.lastY, u.x, u.y, w, now.setWidth 16⟩
    let g := if u = ⟨k.lastX, k.lastY⟩ then d else d.emitSeg i u w now
    let c := g.closeStroke i .zoneExit now
    let b := d.closeStroke i .zoneExit now
    SampleFor s cell i l n f → (s.dev.contact i).state = .inking → ¬f.pressure < effectiveUp (s.dev.slot i).params →
    k.isOpen = true → d.effectiveEnd i q = k.penEnd → d.boundBankZone i q ≠ k.zone →
    (d.allows i (d.effectiveEnd i q) z = true →
      (u ≠ ⟨k.lastX, k.lastY⟩ →
        g.context i =
            { k with
              sequence := k.sequence + 1, count := satInc k.count, lastX := u.x, lastY := u.y, lastWidth := w } ∧
          Device.SegOffered i seg d g) ∧
      Device.StrokeClosed i .zoneExit now g c ∧
      Leads (.sample cell) s (fun e =>
        Device.StrokeOpened i k.penEnd z u q true c e ∧ e.summary i = c.summary i ∧
        (e.summary i).count = (if u = ⟨k.lastX, k.lastY⟩ then k.count else satInc k.count) ∧
        e.contact i = d.contact i ∧ e.filter i = v ∧ d.OthersKept i e ∧ d.SurroundingsKept e)) ∧
    (d.allows i (d.effectiveEnd i q) z = false →
      Device.StrokeClosed i .zoneExit now d b ∧
      Leads (.sample cell) s (fun e =>
        e.context i = b.context i ∧ e.summary i = b.summary i ∧ e.router = b.router ∧ e.framer = b.framer ∧
        Device.RefusalCounted z b e ∧ e.contact i = { d.contact i with state := .blocked } ∧ e.filter i = v ∧
        e.strokes.candidate = d.strokes.candidate ∧ d.OthersKept i e ∧ d.SurroundingsKept e))

/-- An INKING sample of the other end closes the stroke with END_CHANGE and begins anew at once at the corrected point: a stroke of the new
end, not a continuation, where the active bank allows it, its OPEN routed behind the CLOSE; else BLOCKED with the accounting of R44. That the
close comes before the accounting is the model's inference (DEDUCED, log entry 11) (R44, R51, R85, R93, R96). -/
def Obligations.EndChangeStartsAnew : Prop :=
  ∀ (s : State) (cell : Cell) (i : Slot) (l : Lane) (n : BitVec 4) (f : SampleFields),
    let d := s.dev.received i l n
    let q : Sample := ⟨f, s.dev.clock⟩
    let u := d.corrected i q
    let k := d.context i
    let z := d.activeZone i q
    let c := d.closeStroke i .endChange s.dev.clock
    SampleFor s cell i l n f → (s.dev.contact i).state = .inking → ¬f.pressure < effectiveUp (s.dev.slot i).params →
    k.isOpen = true → d.effectiveEnd i q ≠ k.penEnd →
    Device.StrokeClosed i .endChange s.dev.clock d c ∧
    Leads (.sample cell) s fun e =>
      e.summary i = c.summary i ∧ e.filter i = ⟨16 * u.x.toNat, 16 * u.y.toNat⟩ ∧
      (if d.allows i (d.effectiveEnd i q) z then
        e.contact i = d.contact i ∧ Device.StrokeOpened i (d.effectiveEnd i q) z u q false c e
      else
        e.contact i = { d.contact i with state := .blocked } ∧ e.context i = StrokeContext.closed ∧
          Device.RefusalCounted z c e ∧ e.router = c.router ∧ e.framer = c.framer ∧
          e.strokes.candidate = d.strokes.candidate) ∧
      d.OthersKept i e ∧ d.SurroundingsKept e

/-- A lift closes the stroke at once with lift-hold 0 and holds it otherwise. A held pen ignores samples below the down threshold, takes one that
reaches it as an INKING sample, so that it goes on with the same stroke in its zone, and closes with LIFT at the lift time when the lift-hold
expires; each close hands its CLOSE record to the router (R52, R53, R93, R94). -/
def Obligations.LiftHoldsThenCloses : Prop :=
  ∀ (s : State) (cell : Cell) (i : Slot) (l : Lane) (n : BitVec 4) (f : SampleFields),
    let d := s.dev.received i l n
    let q : Sample := ⟨f, s.dev.clock⟩
    let p := (s.dev.slot i).params
    let k := d.context i
    (SampleFor s cell i l n f → (s.dev.contact i).state = .inking → f.pressure < effectiveUp p → k.isOpen = true →
      (p.liftHold = 0 →
        Leads (.sample cell) s fun e =>
          e.contact i = { d.contact i with state := .hover, liftTime := s.dev.clock } ∧
          Device.StrokeClosed i .lift s.dev.clock d e ∧
          e.filter i = d.filter i ∧ d.OthersKept i e ∧ d.SurroundingsKept e) ∧
      (p.liftHold ≠ 0 →
        Becomes (.sample cell) s
          (d.setContact i
            { d.contact i with state := .holding, liftTime := s.dev.clock, liftHold := some p.liftHold.toNat }))) ∧
    (SampleFor s cell i l n f → (s.dev.contact i).state = .holding →
      (f.pressure < p.down → Becomes (.sample cell) s d) ∧
      (¬f.pressure < p.down →
        exec (.sample cell) s =
          exec (.sample cell)
            ⟨s.dev.setContact i { s.dev.contact i with state := .inking, liftHold := none }, s.pending⟩) ∧
      (¬f.pressure < p.down → d.effectiveEnd i q = k.penEnd → d.boundBankZone i q = k.zone →
        Leads (.sample cell) s fun e =>
          e.contact i = { d.contact i with state := .inking, liftHold := none } ∧
          e.filter i = smoothValue p.smoothing.toNat (d.corrected i q) (s.dev.filter i) ∧
          (e.context i).id = k.id ∧ (e.context i).isOpen = k.isOpen ∧ e.summary i = d.summary i ∧
          d.OthersKept i e ∧ d.SurroundingsKept e)) ∧
    ((s.dev.contact i).state = .holding → (s.dev.contact i).liftHold = some 0 → (s.dev.context i).isOpen = true →
      Leads (.liftHoldExpiry i) s fun e =>
        e.contact i = { s.dev.contact i with state := .hover, liftHold := none } ∧
        Device.StrokeClosed i .lift (s.dev.contact i).liftTime s.dev e ∧
        e.filter i = s.dev.filter i ∧ s.dev.OthersKept i e ∧ s.dev.SurroundingsKept e)

/-- A BLOCKED pen is judged again by every sample at or above the effective up threshold: it draws at once from the corrected point where
the zone allows it, with its OPEN record routed, and stays BLOCKED uncounted where it does not; a sample below returns it to HOVER (R55, R85,
R86). -/
def Obligations.BlockedPenIsJudgedAgain : Prop :=
  ∀ (s : State) (cell : Cell) (i : Slot) (l : Lane) (n : BitVec 4) (f : SampleFields),
    let d := s.dev.received i l n
    let q : Sample := ⟨f, s.dev.clock⟩
    let u := d.corrected i q
    let z := d.activeZone i q
    SampleFor s cell i l n f → (s.dev.contact i).state = .blocked →
    (f.pressure < effectiveUp (s.dev.slot i).params → Becomes (.sample cell) s (d.setState i .hover)) ∧
    (¬f.pressure < effectiveUp (s.dev.slot i).params →
      (d.allows i (d.effectiveEnd i q) z = false → Becomes (.sample cell) s d) ∧
      (d.allows i (d.effectiveEnd i q) z = true →
        Leads (.sample cell) s fun e =>
          e.contact i = { d.contact i with state := .inking } ∧ e.filter i = ⟨16 * u.x.toNat, 16 * u.y.toNat⟩ ∧
          Device.StrokeOpened i (d.effectiveEnd i q) z u q false d e ∧ e.summary i = d.summary i ∧
          e.slot i = d.slot i ∧ d.OthersKept i e ∧ d.SurroundingsKept e))

/-! ## The Point Filter (Chapter 6) -/

/-- A smooth request moves each axis towards sixteen times the corrected coordinate by the rounded 2^k-th part of the distance, never past
it, so every filter value stays in 0 to 1,048,560; seeds stay there too (R108). -/
def Obligations.SmoothingApproachesTarget : Prop :=
  ∀ (d : Device) (i j : Slot) (q : Sample) (k v : Nat) (x : Word16),
    let a : Int := 16 * (x.toNat : Int) - v
    let b : Int := (smoothAxis k v x : Int) - v
    (k = 0 → b = a ∧ smoothAxis k v x = 16 * x.toNat) ∧
    (1 ≤ k → k ≤ 4 →
      b = a.sign * (((a.natAbs + 2 ^ (k - 1)) / 2 ^ k : Nat) : Int) ∧ 2 * (2 ^ k * b - a).natAbs ≤ 2 ^ k ∧
      (2 * (2 ^ k * b - a).natAbs = 2 ^ k → a.natAbs < (2 ^ k * b).natAbs)) ∧
    (a = 0 → b = 0) ∧ b.natAbs ≤ a.natAbs ∧ (0 < a → 0 ≤ b) ∧ (a < 0 → b ≤ 0) ∧
    min v (16 * x.toNat) ≤ smoothAxis k v x ∧ smoothAxis k v x ≤ max v (16 * x.toNat) ∧
    (d.smoothFilter i q).filter i =
      ⟨smoothAxis (d.slot i).params.smoothing.toNat (d.filter i).sx (d.corrected i q).x,
        smoothAxis (d.slot i).params.smoothing.toNat (d.filter i).sy (d.corrected i q).y⟩ ∧
    (j ≠ i → (d.smoothFilter i q).filter j = d.filter j) ∧
    (d.FiltersSound → (d.smoothFilter i q).FiltersSound ∧ (d.seedFilter i q).FiltersSound)

/-- The unit point is the filter value over sixteen to the nearest whole unit, halves up, and the clamp never acts. A pen held still brings
each axis to within 2^(k-1) - 1 sixteenths after finitely many samples, and its unit point to its corrected point for good (R110). -/
def Obligations.HeldPenReachesItsPoint : Prop :=
  ∀ (v k : Nat) (x : Word16),
    v ≤ 1048560 →
    (unitAxis v).toNat = (v + 8) / 16 ∧ (v + 8) / 16 ≤ 65535 ∧ unitAxis (16 * x.toNat) = x ∧
    (k ≤ 4 →
      ∃ n : Nat, ∀ m : Nat, n ≤ m →
        unitAxis (Nat.iterate (fun u => smoothAxis k u x) m v) = x ∧
        (((Nat.iterate (fun u => smoothAxis k u x) m v : Nat) : Int) - 16 * (x.toNat : Int)).natAbs ≤ 2 ^ (k - 1) - 1)

/-- A tip's width is the pressure placed on the slot's width curve, between the knot below and the knot above, and equal to w8 at 4095, for
knots of 1 to 255 (R113); an eraser's is the slot's eraser width (R114); a zone's width cap cuts either down to the cap (R115). -/
def Obligations.WidthFollowsCurveAndCap : Prop :=
  ∀ (d : Device) (i : Slot) (p : BitVec 12) (n : Fin 8) (w : PenEnd) (cap : Byte),
    let knots : Knots := d.pens.curves[index4 (d.slot i).params.curve]
    let f : Int := (p.toNat : Int) - 512 * n.val
    let lo : Int := (knots[n.castSucc]).toNat
    let hi : Int := (knots[n.succ]).toNat
    let t : Int := (hi - lo) * f
    let r : Int := t.sign * (((t.natAbs + 256) / 512 : Nat) : Int)
    ((∀ j : Fin 9, knots[j] ≠ 0) → p.toNat / 512 = n.val →
      ((d.widthFor i .tip p 0).toNat : Int) = lo + r ∧ 0 ≤ f ∧ f ≤ 511 ∧ t.natAbs ≤ 511 * (hi - lo).natAbs ∧
      r.natAbs ≤ (hi - lo).natAbs ∧ min lo hi ≤ lo + r ∧ lo + r ≤ max lo hi ∧ 1 ≤ lo + r ∧ lo + r ≤ 255 ∧
      2 * (512 * r - t).natAbs ≤ 512 ∧ (2 * (512 * r - t).natAbs = 512 → t.natAbs < (512 * r).natAbs) ∧
      (f = 0 → d.widthFor i .tip p 0 = knots[n.castSucc]) ∧ (p = 4095 → d.widthFor i .tip p 0 = knots[8])) ∧
    d.widthFor i .eraser p 0 = (d.slot i).params.eraserWidth ∧
    (cap ≠ 0 → cap < d.widthFor i w p 0 → d.widthFor i w p cap = cap) ∧
    (cap = 0 ∨ d.widthFor i w p 0 ≤ cap → d.widthFor i w p cap = d.widthFor i w p 0) ∧
    (d.SettingsSound → d.widthFor i w p cap ≠ 0 ∧ (cap ≠ 0 → d.widthFor i w p cap ≤ cap))

/-! ## Decode and stroke ids (Chapters 4 and 5) -/

/-- A decode gives the lowest-numbered enabled zone whose rectangle contains the point, its edges included, and the open area exactly
where no enabled zone contains it (R61). -/
def Obligations.DecodeFindsLowestZone : Prop :=
  ∀ (b : Bank) (x y : Word16) (z : Fin 16),
    let holds := fun w : Fin 16 =>
      (b.zones[w]).enable = true ∧ (b.zones[w]).xMin ≤ x ∧ x ≤ (b.zones[w]).xMax ∧ (b.zones[w]).yMin ≤ y ∧ y ≤ (b.zones[w]).yMax
    (b.decode x y = z.castSucc ↔ holds z ∧ ∀ w : Fin 16, w < z → ¬holds w) ∧
    (b.decode x y = openAreaNo ↔ ∀ w : Fin 16, ¬holds w)

/-- The id of a new stroke is the first candidate that no open stroke carries, found in at most 11 advances and never 0; the allocator then
holds the id after it, so open strokes never share an id. Closes leave the allocator alone; hard reset and RESTART set it to 1 (R83). -/
def Obligations.NewStrokeIdIsFree : Prop :=
  ∀ (d : Device) (i j : Slot) (q : OpenRequest) (reason : CloseReason) (time : Word32),
    (nextId 0xFFFF = 1 ∧ ∀ c : Word16, c ≠ 0xFFFF → nextId c = c + 1) ∧
    (d.IdsSound → (d.context i).isOpen = false →
      d.newId ≠ 0 ∧ (∀ k : Slot, (d.context k).isOpen = true → (d.context k).id ≠ d.newId) ∧
      (∃ n : Nat, n ≤ 11 ∧ d.newId = Nat.iterate nextId n d.strokes.candidate ∧
        ∀ m : Nat, m < n → ∃ k : Slot, (d.context k).isOpen = true ∧ (d.context k).id = Nat.iterate nextId m d.strokes.candidate) ∧
      ((d.openStroke i q).context i).id = d.newId ∧ ((d.openStroke i q).context i).isOpen = true ∧
      (d.openStroke i q).strokes.candidate = nextId d.newId ∧ (d.openStroke i q).IdsSound) ∧
    (d.closeStroke j reason time).strokes.candidate = d.strokes.candidate ∧
    (hardResetDevice true).strokes.candidate = 1 ∧ (hardResetDevice false).strokes.candidate = 1 ∧ d.restarted.strokes.candidate = 1

/-! ## The Segment Router (Chapter 7) -/

/-- Each side of an OPEN is decided on its own: asked for by the resolved steering (and, for the share side, by role and share state),
admitted where the queue has room for it and for its CLOSE beside the outstanding reservations, else counted and posted; a share OPEN that
enters makes the six-record test (R118 to R125, R140). That OVERLAY_STALL comes before SHARE_OVERFLOW where both sides refuse is the model's
choice (log entry 16). -/
def Obligations.OpenIsAdmittedWithRoomForItsClose : Prop :=
  ∀ (d : Device) (o : OpenRecord) (st : Steering),
    let r := d.router
    let e := d.routeOpen o st
    let overlay := st = .localInk ∨ st = .both
    let share := (st = .shareInk ∨ st = .both) ∧ o.role ≠ .guest ∧ d.framer.state = .enabled
    let overlayRoom := r.overlayQueue.length + r.overlayReservations + 2 ≤ 48
    let shareRoom := r.shareQueue.length + r.shareReservations + 2 ≤ 64
    let v : Delivery :=
      { id := o.id, slot := o.slot, overlayLive := decide (overlay ∧ overlayRoom),
        overlaySuppressed := decide (overlay ∧ ¬overlayRoom), overlayGap := false, coalesced := false,
        shareLive := decide (share ∧ shareRoom), shareTruncated := decide (share ∧ ¬shareRoom),
        overlayReserved := decide (overlay ∧ overlayRoom), shareReserved := decide (share ∧ shareRoom) }
    let n := if overlay ∧ ¬overlayRoom then d.notices.post .overlayStall (slotSubject o.slot) else d.notices
    let m : Device :=
      { d with
        router :=
          { r with
            deliveries := r.deliveries ++ [v]
            overlayQueue := if overlay ∧ overlayRoom then r.overlayQueue ++ [.openRec o] else r.overlayQueue
            shareQueue := if share ∧ shareRoom then r.shareQueue ++ [.openRec o] else r.shareQueue
            suppressedStrokes := if overlay ∧ ¬overlayRoom then satInc r.suppressedStrokes else r.suppressedStrokes
            truncatedStrokes := if share ∧ ¬shareRoom then satInc r.truncatedStrokes else r.truncatedStrokes }
        notices := if share ∧ ¬shareRoom then n.post .shareOverflow (slotSubject o.slot) else n }
    if share ∧ shareRoom then m.FilledFrames e else e = m

/-- A SEG takes a place that no CLOSE is owed. Refused on the overlay, it is merged into the newest SEG of its stroke that is not in
transmission, and dropped where there is none (R123); on the share path it enters with the six-record trigger, or cuts its stroke short there
(R125, R140). The newest queued record of the id tells whether a SEG of this stroke is queued: the model's inference (DEDUCED, log entry 15). -/
def Obligations.RefusedSegIsMergedOrDropped : Prop :=
  ∀ (d : Device) (i : Slot) (s t : SegRecord) (a b : List InkRecord),
    let r := d.router
    let marked := fun f : Delivery → Delivery => r.deliveries.map fun v => if v.id = s.id then f v else v
    let room := r.overlayQueue.length + r.overlayReservations + 1 ≤ 48
    let waiting := if r.overlayTx = none then r.overlayQueue else r.overlayQueue.drop 1
    let dropped : Router :=
      { r with droppedSegs := satInc r.droppedSegs, deliveries := marked fun v => { v with overlayGap := true } }
    (room → r.offerOverlaySeg s = { r with overlayQueue := r.overlayQueue ++ [.segRec s] }) ∧
    (¬room → r.overlayQueue = a ++ .segRec t :: b → t.id = s.id → (r.overlayTx = none ∨ a ≠ []) → (∀ x ∈ b, x.id ≠ s.id) →
      r.offerOverlaySeg s =
        { r with
          overlayQueue := a ++ .segRec { t with toX := s.toX, toY := s.toY, width := s.width, time := s.time } :: b
          coalescedSegs := satInc r.coalescedSegs
          deliveries := marked fun v => { v with coalesced := true } }) ∧
    (¬room → (∀ x ∈ waiting, x.id ≠ s.id) → r.offerOverlaySeg s = dropped) ∧
    (∀ x : InkRecord,
      ¬room → waiting = a ++ x :: b → x.id = s.id → (∀ y : SegRecord, x ≠ .segRec y) → (∀ y ∈ b, y.id ≠ s.id) →
        r.offerOverlaySeg s = dropped) ∧
    (r.shareQueue.length + r.shareReservations + 1 ≤ 64 →
      Device.FilledFrames
        { d with router := { r with shareQueue := r.shareQueue ++ [.segRec ⟨s.id, s.sequence, s.toX, s.toY, s.width, s.time⟩] } }
        (d.offerShareSeg i s)) ∧
    (¬r.shareQueue.length + r.shareReservations + 1 ≤ 64 →
      d.offerShareSeg i s =
        { d with
          router :=
            { r with
              truncatedStrokes := satInc r.truncatedStrokes
              deliveries := marked fun v => { v with shareTruncated := true } }
          notices := d.notices.post .shareOverflow (slotSubject i) })

/-- A CLOSE enters each queue in which its stroke is live, without a test, on the stroke's own reservation, with the flags of that copy,
and the delivery record ends; a share copy makes the six-record test. The overlay sum of places taken and places owed stays as it was (R121,
R124, R140). -/
def Obligations.CloseEntersOnItsReservation : Prop :=
  ∀ (d : Device) (id count : Word16) (reason : CloseReason) (gap : Bool) (time : Word16) (v : Delivery),
    let r := d.router
    let e := d.routeClose id count reason gap time
    let overlayCopy : CloseRecord := ⟨id, count, reason, ⟨gap, v.overlayGap, false, v.coalesced⟩, time⟩
    let shareCopy : CloseRecord := ⟨id, count, reason, ⟨gap, false, v.shareTruncated, false⟩, time⟩
    let m : Device :=
      { d with
        router :=
          { r with
            deliveries := r.deliveries.filter fun u => u.id ≠ id
            overlayQueue := if v.overlayLive then r.overlayQueue ++ [.closeRec overlayCopy] else r.overlayQueue
            shareQueue := if v.shareLive then r.shareQueue ++ [.closeRec shareCopy] else r.shareQueue } }
    r.delivery id = some v →
    (if v.shareLive then m.FilledFrames e else e = m) ∧
    (r.Sound → r.deliveries.Pairwise (fun u w => u.id ≠ w.id) →
      e.router.overlayQueue.length + e.router.overlayReservations = r.overlayQueue.length + r.overlayReservations ∧ e.router.Sound)

/-! ## The egress links (Chapters 7 and 8) -/

/-- The overlay egress sends the head record, as the 16 bytes of Figure 11-4, when the ready line is asserted and none is in transmission, and
the record leaves at the completion (R128, R181). -/
def Obligations.OverlayEgressSendsHead : Prop :=
  ∀ (s : State) (r : InkRecord) (rest : List InkRecord) (sent : List Byte) (o : OpenRecord) (t : SegRecord) (c : CloseRecord),
    let hi := fun x : Word16 => x.extractLsb' 8 8
    let lo := fun x : Word16 => x.extractLsb' 0 8
    let bit := fun (b : Bool) (k : Nat) => if b then 2 ^ k else 0
    (s.dev.router.overlayQueue = r :: rest → s.dev.router.overlayTx = none →
      Becomes (.overlayTxBegin true) s { s.dev with router := { s.dev.router with overlayTx := some (overlayCell r) } }) ∧
    (s.dev.router.overlayQueue = r :: rest → s.dev.router.overlayTx = some sent →
      Becomes .overlayTxComplete s { s.dev with router := { s.dev.router with overlayTx := none, overlayQueue := rest } }) ∧
    (overlayCell r).length = 16 ∧
    overlayCell (.openRec o) =
      [BitVec.ofNat 8 (64 + o.zone.val), hi o.id, lo o.id,
        BitVec.ofNat 8 (o.slot.val + bit (o.penEnd = .eraser) 4 + bit o.continued 5),
        BitVec.ofNat 8 ((roleBits o.role).toNat + 4 * o.group.val + 16 * o.colour.toNat), hi o.x, lo o.x, hi o.y, lo o.y, o.width,
        hi o.time, lo o.time, 0, 0, 0, 0] ∧
    overlayCell (.segRec t) =
      [0x80, hi t.id, lo t.id, hi t.sequence, lo t.sequence, hi t.fromX, lo t.fromX, hi t.fromY, lo t.fromY, hi t.toX, lo t.toX,
        hi t.toY, lo t.toY, t.width, hi t.time, lo t.time] ∧
    overlayCell (.closeRec c) =
      [0xC0, hi c.id, lo c.id, hi c.count, lo c.count, BitVec.ofNat 8 (reasonNo c.reason),
        BitVec.ofNat 8
          (bit c.flags.laneGap 0 + bit c.flags.overlayGap 1 + bit c.flags.shareTruncated 2 + bit c.flags.coalesced 3),
        hi c.time, lo c.time, 0, 0, 0, 0, 0, 0, 0] ∧
    [roleBits .teacher, roleBits .student, roleBits .guest] = [0, 1, 2] ∧
    [CloseReason.lift, .lost, .zoneExit, .endChange, .forced, .retired, .shareOff].map reasonNo = [1, 2, 3, 4, 5, 6, 7]

/-- The egress arbiter sends the head reply cell before any frame, and else the HELD frame that was built first, whose buffer becomes
SENDING; a reply cell leaves at its completion, and the taking test is made: the oldest waiting command is executed, and where the completion
has freed the only place it is the only one, and the others wait on in their order, unless it is RESTART (R137, R148, R154, R155). That a
completion with a range read in hand forms no item itself is the model's inference (DEDUCED, log entry 5). -/
def Obligations.ShareEgressPrefersReplies : Prop :=
  ∀ (s : State) (r : ReplyCell) (replies : List ReplyCell) (b : Fin 2) (rest : List (Fin 2)) (f : Frame) (x : List Byte)
    (c : Command) (waiting : List Command),
    (s.dev.arbiter.inTransmission = none → s.dev.arbiter.replies = r :: replies →
      Becomes (.shareEgressBegin true) s { s.dev with arbiter := { s.dev.arbiter with inTransmission := some (.reply r.bytes) } }) ∧
    (s.dev.arbiter.inTransmission = none → s.dev.arbiter.replies = [] → s.dev.framer.heldOrder = b :: rest →
      s.dev.framer.buffers[b] = .held f →
      Becomes (.shareEgressBegin true) s
        { s.dev with
          framer := { s.dev.framer with buffers := s.dev.framer.buffers.set b (.sending f), heldOrder := rest }
          arbiter := { s.dev.arbiter with inTransmission := some (.frame b f.bytes) } }) ∧
    (s.dev.arbiter.inTransmission = some (.reply x) → s.dev.arbiter.replies = r :: replies →
      let e :=
        runCommand (decodeCommand c)
          { s.dev with arbiter := ⟨replies, none⟩, responder := { s.dev.responder with queue := waiting } }
      Leads .replyTxComplete s (Device.TakesOldest { s.dev with arbiter := ⟨replies, none⟩ }) ∧
      ((s.dev.responder.queue = [] ∨ s.dev.responder.reading ≠ none) →
        Becomes .replyTxComplete s { s.dev with arbiter := ⟨replies, none⟩ }) ∧
      (s.dev.responder.reading = none → s.dev.responder.queue = c :: waiting → replies.length = 3 ∨ replies.length < 4 ∧ waiting = [] →
        Becomes .replyTxComplete s e ∧ e.responder.queue = if c.code = 0x13 then [] else waiting))

/-- A reply cell has 32 bytes: marker, tag, code, result, status, 25 payload bytes filled with zeros, and the CRC-8 of the 31 before it. A share
frame of n records has 14 + 12n bytes: the header of Figure 11-5, the records of Figure 11-4, and the CRC-16 of what stands before it, the
high byte first (R180, R181). -/
def Obligations.SentUnitsCarryTheirChecks : Prop :=
  ∀ (tag : Word16) (code : Byte) (result : Result) (status : ReplyStatus) (payload : List Byte) (f : Frame) (o : OpenRecord)
    (t : ShareSeg) (c : CloseRecord),
    let hi := fun x : Word16 => x.extractLsb' 8 8
    let lo := fun x : Word16 => x.extractLsb' 0 8
    let bit := fun (b : Bool) (k : Nat) => if b then 2 ^ k else 0
    let r := (formReply tag code result status payload).bytes
    let g := f.sealed.bytes
    r.length = 32 ∧ r.getLast? = some (crc8 (r.take 31)) ∧ crc8 r = 0 ∧
    r.take 6 =
      [0xA0, hi tag, lo tag, code, BitVec.ofNat 8 (resultNo result),
        BitVec.ofNat 8
          (bit status.retiring 0 + bit status.locked 1 + bit status.written 2 + 8 * shareNo status.share + bit status.overrun 5)] ∧
    (r.drop 6).take 25 = payload.take 25 ++ List.replicate (25 - payload.length) 0 ∧
    g.length = 14 + 12 * f.records.length ∧
    g.take 12 =
      [0x5F, hi f.classroom, lo f.classroom, f.board, hi f.sequence, lo f.sequence, f.generation, f.time.extractLsb' 24 8,
        f.time.extractLsb' 16 8, f.time.extractLsb' 8 8, f.time.extractLsb' 0 8, BitVec.ofNat 8 f.records.length] ∧
    (g.drop 12).take (12 * f.records.length) = f.records.flatMap shareRecordBytes ∧
    g.drop (12 + 12 * f.records.length) =
      [hi (crc16 (g.take (12 + 12 * f.records.length))), lo (crc16 (g.take (12 + 12 * f.records.length)))] ∧
    crc16 g = 0 ∧
    shareRecordBytes (.segRec t) =
      [0x80, hi t.id, lo t.id, hi t.sequence, lo t.sequence, hi t.toX, lo t.toX, hi t.toY, lo t.toY, t.width, hi t.time, lo t.time] ∧
    shareRecordBytes (.openRec o) = (overlayCell (.openRec o)).take 12 ∧
    shareRecordBytes (.closeRec c) = (overlayCell (.closeRec c)).take 12

/-- A frame's completion empties its buffer. In ENABLED a pending flush builds a frame and the six-record trigger acts; in DRAINING frames are
built while records wait, and with nothing queued DRAINING goes on while the other buffer is in use and ends with SHARE_DRAINED where it is
EMPTY. With the other buffer in use the frame is built into the freed one (R136, R140, R141). -/
def Obligations.FreedBufferTakesWaitingRecords : Prop :=
  ∀ (s : State) (b c : Fin 2) (x : List Byte),
    let f := s.dev.framer
    let q := s.dev.router.shareQueue
    let d : Device :=
      { s.dev with framer := { f with buffers := f.buffers.set b .empty }, arbiter := { s.dev.arbiter with inTransmission := none } }
    s.dev.arbiter.inTransmission = some (.frame b x) → c ≠ b →
    (f.state = .disabled ∨ f.state = .enabled ∧ q.length < 6 ∧ (f.pendingFlush = false ∨ q = []) ∨
        f.state = .draining ∧ q = [] ∧ f.buffers[c] ≠ .empty →
      Becomes .frameTxComplete s d) ∧
    (f.state = .enabled → f.pendingFlush = false ∨ q = [] → Leads .frameTxComplete s (Device.FilledFrames d)) ∧
    (f.state = .enabled → f.pendingFlush = true → q ≠ [] →
      Leads .frameTxComplete s fun e =>
        ∃ m : Device, Device.BuiltOnly (if d.framer.buffers[(0 : Fin 2)] = .empty then 0 else 1) d m ∧ m.FilledFrames e) ∧
    (f.state = .draining → Leads .frameTxComplete s (Device.DrainedFrames d)) ∧
    (f.buffers[c] ≠ .empty → q ≠ [] →
      f.state = .enabled ∧ (f.pendingFlush = true ∨ 6 ≤ q.length) ∨ f.state = .draining →
      Leads .frameTxComplete s fun e =>
        Device.BuiltFrame b d e ∧ e.framer.state = f.state ∧ e.framer.timer = f.timer ∧ e.framer.cycle = f.cycle ∧
          e = { d with framer := e.framer, router := e.router }) ∧
    (f.buffers[c] = .empty → q = [] → f.state = .draining →
      Becomes .frameTxComplete s
        { d with framer := { d.framer with state := .disabled }, notices := d.notices.post .shareDrained none })

/-- A pacer expiry and FLUSH in ENABLED build a frame of up to six records into the lowest EMPTY buffer, or defer where none is EMPTY, or do
nothing on an empty queue; then the next period begins, one position on or at 0, P + 1 ticks below F and P elsewhere (R141 to R145). -/
def Obligations.PacerAndFlushBuildFrames : Prop :=
  ∀ (s : State) (tag : Word16) (b : Fin 2),
    let f := s.dev.framer
    let q := s.dev.router.shareQueue
    let period := fun c : BitVec 4 => some (f.period.toNat + (if c < f.fine then 1 else 0))
    let lowest := f.buffers[b] = .empty ∧ ∀ c : Fin 2, c < b → f.buffers[c] ≠ .empty
    let full := ∀ c : Fin 2, f.buffers[c] ≠ .empty
    f.state = .enabled →
    (f.timer = some 0 →
      (q = [] → Becomes .pacerExpiry s { s.dev with framer := { f with cycle := f.cycle + 1, timer := period (f.cycle + 1) } }) ∧
      (q ≠ [] → full →
        Becomes .pacerExpiry s
          { s.dev with
            framer :=
              { f with
                cycle := f.cycle + 1, timer := period (f.cycle + 1), pendingFlush := true,
                deferredFlushes := satInc f.deferredFlushes } }) ∧
      (q ≠ [] → lowest →
        Leads .pacerExpiry s fun e =>
          Device.BuiltFrame b s.dev e ∧ e.framer.cycle = f.cycle + 1 ∧ e.framer.timer = period (f.cycle + 1) ∧
            e.framer.state = .enabled ∧ e = { s.dev with framer := e.framer, router := e.router })) ∧
    (s.dev.Ready →
      (q = [] →
        Answers (.flush tag) s tag 0x54 .done [0, if f.pendingFlush then 1 else 0]
          { s.dev with framer := { f with cycle := 0, timer := period 0 } }) ∧
      (q ≠ [] → full →
        Answers (.flush tag) s tag 0x54 .done [0, 1]
          { s.dev with
            framer :=
              { f with cycle := 0, timer := period 0, pendingFlush := true, deferredFlushes := satInc f.deferredFlushes } }) ∧
      (q ≠ [] → lowest →
        Leads (.flush tag) s fun e =>
          Device.BuiltFrame b s.dev e ∧ e.framer.cycle = 0 ∧ e.framer.timer = period 0 ∧ e.framer.state = .enabled ∧
            e.arbiter.replies =
              s.dev.arbiter.replies ++ [formReply tag 0x54 .done e.status [BitVec.ofNat 8 (min 6 q.length), 0]] ∧
            e.arbiter.inTransmission = s.dev.arbiter.inTransmission ∧
            e = { s.dev with framer := e.framer, router := e.router, arbiter := e.arbiter }))

/-! ## Notices (Chapter 10) -/

/-- A post is discarded at level 0, merged into a standing entry of its kind and subject, queued behind every entry of its level or higher,
or lost with the overrun flag set where 16 entries stand; a pulse runs on through it (R170, R175, R176). -/
def Obligations.PostsMergeQueueOrOverrun : Prop :=
  ∀ (q : NoticeQueue) (k : NoticeKind) (j : Subject),
    let level := q.levels[kindNo k]
    let stands := ∃ e ∈ q.entries, e.kind = k ∧ e.subject = j
    let p := q.post k j
    (level = 0 → p = q) ∧
    (level ≠ 0 → stands →
      p = { q with
            entries :=
              q.entries.map fun e =>
                if e.kind = k ∧ e.subject = j then { e with repeats := if e.repeats = 255 then 255 else e.repeats + 1 } else e }) ∧
    (level ≠ 0 → ¬stands → 16 ≤ q.entries.length → p = { q with overrun := true }) ∧
    (level ≠ 0 → ¬stands → q.entries.length < 16 → q.Sound →
      p.entries =
          q.entries.filter (fun e => level ≤ e.level) ++ ⟨k, j, level, 1, q.arrivals⟩ :: q.entries.filter (fun e => e.level < level) ∧
        p.line =
          (if q.line = .pulsing then .pulsing
          else if q.threshold ≤ level ∨ ∃ e ∈ q.entries, q.threshold ≤ e.level then .asserted else .released) ∧
        p = { q with entries := p.entries, line := p.line, arrivals := q.arrivals + 1 })

/-- ACK removes the entry that it names, wherever it stands, clears the overrun flag, reports both, and releases the line: for good where no
entry left reaches the threshold, and otherwise for a pulse, at whose end the condition decides (R174 to R176). -/
def Obligations.AckRemovesEntryAndPulses : Prop :=
  ∀ (s : State) (tag : Word16) (k : NoticeKind) (j : Subject) (e : NoticeEntry),
    let q := s.dev.notices
    let left := q.entries.filter fun x => ¬(x.kind = k ∧ x.subject = j)
    let reaches := fun l : List NoticeEntry => ∃ x ∈ l, q.threshold ≤ x.level
    (s.dev.Ready → q.Sound → e ∈ q.entries → e.kind = k → e.subject = j →
      left.length + 1 = q.entries.length ∧
      Answers (.ack tag (BitVec.ofNat 4 (kindNo k).val) (BitVec.ofNat 5 (subjectNo j))) s tag 0x61 .done
        [BitVec.ofNat 8 (kindNo k).val, BitVec.ofNat 8 (subjectNo j), e.repeats, BitVec.ofNat 8 left.length,
          if q.overrun then 1 else 0]
        { s.dev with
          notices := { q with entries := left, overrun := false, line := if reaches left then .pulsing else .released } }) ∧
    (q.line = .pulsing →
      Becomes .noticePulseEnd s
        { s.dev with notices := { q with line := if reaches q.entries then .asserted else .released } })

/-! ## Events out of their turn -/

/-- An expiry whose timer is not due, a completion with nothing in transmission, a beginning without a ready line or a unit, the end of a
pulse that is not running, and the next item of no read leave the device as it is: the model's own choice (log entry 3). -/
def Obligations.EventsOutOfTurnChangeNothing : Prop :=
  ∀ (s : State) (i : Slot),
    ((s.dev.contact i).presence ≠ some 0 → Becomes (.presenceExpiry i) s s.dev) ∧
    ((s.dev.contact i).liftHold ≠ some 0 → Becomes (.liftHoldExpiry i) s s.dev) ∧
    (s.dev.framer.timer ≠ some 0 → Becomes .pacerExpiry s s.dev) ∧
    (s.dev.notices.line ≠ .pulsing → Becomes .noticePulseEnd s s.dev) ∧
    Becomes (.overlayTxBegin false) s s.dev ∧ Becomes (.shareEgressBegin false) s s.dev ∧
    (s.dev.router.overlayQueue = [] ∨ s.dev.router.overlayTx ≠ none → Becomes (.overlayTxBegin true) s s.dev) ∧
    (s.dev.router.overlayTx = none → Becomes .overlayTxComplete s s.dev) ∧
    (s.dev.arbiter.inTransmission ≠ none ∨ s.dev.arbiter.replies = [] ∧ s.dev.framer.heldOrder = [] →
      Becomes (.shareEgressBegin true) s s.dev) ∧
    (s.dev.arbiter.inTransmission = none → Becomes .replyTxComplete s s.dev ∧ Becomes .frameTxComplete s s.dev) ∧
    (s.dev.responder.reading = none → Becomes .rangeReadNextItem s s.dev)

/-! ## Management commands (Chapters 1, 2, 4, 8, 9 and 10) -/

/-- The writes of the Pen Table store their operands, each after its clamp, and change nothing else: a table entry, the global settings, a
slot's parameters, its offset, its capture (R19, R20, R27, R29, R30, R32, R33, R37, R38). -/
def Obligations.PenTableWritesStoreClamped : Prop :=
  ∀ (s : State) (tag : Word16) (i : Slot) (j : Fin 8) (n : BitVec 2) (on : Bool) (m k : Word24) (g : Group) (role : Role)
    (colour : BitVec 4) (block : Profile) (knots : Knots) (count : Byte) (x y : Word16),
    let p := s.dev.pens
    let slot := BitVec.ofNat 4 i.val
    let attr : AttributeBits := ⟨roleBits role, BitVec.ofNat 2 g.val, colour⟩
    let clamped : Profile :=
      { block with
        down := if block.down = 0 then 1 else block.down
        smoothing := if 4#4 < block.smoothing then 4#4 else block.smoothing
        eraserWidth := if block.eraserWidth = 0 then 1 else block.eraserWidth }
    let ox := max (-512) (min 511 x.toInt)
    let oy := max (-512) (min 511 y.toInt)
    s.dev.Ready →
    Answers (.writeAdmission tag (BitVec.ofNat 4 j.val) on m k attr n) s tag 0x20 .done []
      { s.dev with pens := { p with admission := p.admission.set j ⟨on, m, k, role, g, colour, n⟩ } } ∧
    Answers (.writeProfile tag n block) s tag 0x22 .done []
      { s.dev with pens := { p with profiles := p.profiles.set n.toNat clamped } } ∧
    Answers (.writeCurve tag n knots) s tag 0x24 .done []
      { s.dev with pens := { p with curves := p.curves.set n.toNat (knots.map fun w => if w = 0 then 1 else w) } } ∧
    Answers (.writeSettings tag count on) s tag 0x2E .done []
      { s.dev with pens := { p with presenceCount := if count = 0 then 1 else count, guestAdmission := on } } ∧
    Answers (.writeSlotParameters tag slot block attr) s tag 0x27 .done []
      (s.dev.setSlot i { s.dev.slot i with params := clamped, role := role, group := g, colour := colour }) ∧
    Answers (.setOffset tag slot x y) s tag 0x28 .done (bytes16 (BitVec.ofInt 16 ox) ++ bytes16 (BitVec.ofInt 16 oy))
      (s.dev.setSlot i { s.dev.slot i with offsetX := ox, offsetY := oy }) ∧
    ((s.dev.slot i).binding = .bound →
      Answers (.captureOffset tag slot x y) s tag 0x2C .done []
        (s.dev.setSlot i { s.dev.slot i with targetX := x, targetY := y, captureArmed := true }) ∧
      ((s.dev.slot i).captureArmed = false → Answers (.cancelCapture tag slot) s tag 0x2D .done [] s.dev) ∧
      ((s.dev.slot i).captureArmed = true →
        let d := s.dev.setSlot i { s.dev.slot i with captureArmed := false }
        Answers (.cancelCapture tag slot) s tag 0x2D .done []
          (if (s.dev.contact i).state = .capture then d.setContact i { d.contact i with wait := .ended } else d)))

/-- A BOUND slot that is disabled or unbound closes its open stroke with FORCED at the execution, its CLOSE record routed, and is freed;
role, group, colour and parameters stay, and so does every other slot. On a FREE slot, or with the switch on, only the enabled field is
written (R25, R34, R35). -/
def Obligations.FreedSlotClosesItsStroke : Prop :=
  ∀ (s : State) (tag : Word16) (i : Slot),
    let p := s.dev.slot i
    let slot := BitVec.ofNat 4 i.val
    let freed := fun (code : Byte) (e : Device) =>
      e.contact i = ⟨.free, 0, .ended, 0, none, none, 0⟩ ∧ e.filter i = ⟨0, 0⟩ ∧
      ((s.dev.context i).isOpen = true → Device.StrokeClosed i .forced s.dev.clock s.dev e) ∧
      ((s.dev.context i).isOpen = false →
        e.context i = s.dev.context i ∧ e.summary i = s.dev.summary i ∧ e.router = s.dev.router ∧ e.framer = s.dev.framer ∧
          e.zones = s.dev.zones ∧ e.notices = s.dev.notices) ∧
      e.receiver = s.dev.receiver ∧ e.clock = s.dev.clock ∧ e.responder = s.dev.responder ∧
      e.pens = { s.dev.pens with slots := e.pens.slots } ∧ s.dev.OthersKept i e ∧
      e.arbiter = { s.dev.arbiter with replies := s.dev.arbiter.replies ++ [formReply tag code .done e.status []] }
    let free : PenSlot :=
      { p with
        binding := .free, transducer := 0, lane := 0, offsetX := 0, offsetY := 0, captureArmed := false, targetX := 0, targetY := 0,
        lastSeen := 0 }
    s.dev.Ready →
    Answers (.setSlotEnable tag slot true) s tag 0x29 .done [] (s.dev.setSlot i { p with enabled := true }) ∧
    (p.binding = .free →
      Answers (.setSlotEnable tag slot false) s tag 0x29 .done [] (s.dev.setSlot i { p with enabled := false })) ∧
    (p.binding = .bound →
      Leads (.setSlotEnable tag slot false) s (fun e => e.slot i = { free with enabled := false } ∧ freed 0x29 e) ∧
      Leads (.unbind tag slot) s (fun e => e.slot i = free ∧ freed 0x2A e))

/-- With the layout unlocked and the apply state IDLE, zone writes change the named record of the staging bank alone; APPLY exchanges the
banks and counts the generation, and the former active bank retires where strokes are bound to it and else becomes a copy (R68 to R77). -/
def Obligations.ApplyExchangesBanks : Prop :=
  ∀ (s : State) (tag : Word16) (k : Fin 16) (xMin xMax yMin yMax : Word16) (on : Bool) (rules : ZoneRules),
    let z := s.dev.zones
    let n := z.other
    let b := z.bank n
    s.dev.Ready → z.locked = false → z.apply = .idle →
    n ≠ z.active ∧
    Answers (.writeZoneRect tag (BitVec.ofNat 5 k.val) xMin xMax yMin yMax) s tag 0x30 .done [BitVec.ofNat 8 (bankNo n)]
      { s.dev with
        zones :=
          z.setBank n
            { b with zones := b.zones.set k { b.zones[k] with xMin := xMin, xMax := xMax, yMin := yMin, yMax := yMax } } } ∧
    Answers (.writeZoneAttributes tag (BitVec.ofNat 5 k.val) on rules) s tag 0x31 .done [BitVec.ofNat 8 (bankNo n)]
      { s.dev with
        zones := z.setBank n { b with zones := b.zones.set k { b.zones[k] with enable := on, rules := rules } } } ∧
    Answers (.writeOpenArea tag rules) s tag 0x32 .done [BitVec.ofNat 8 (bankNo n)]
      { s.dev with zones := z.setBank n { b with openArea := rules } } ∧
    Leads (.apply tag) s fun e =>
      e.zones.active = n ∧ e.zones.generation = z.generation + 1 ∧ e.zones.locked = false ∧ e.zones.activeBank = b ∧
      (z.activeBank.bindings = 0 →
        e.zones.apply = .idle ∧ e.zones.bank z.active = { b with blocked := Vector.replicate 17 0, bindings := 0 }) ∧
      (z.activeBank.bindings ≠ 0 → e.zones.apply = .retiring ∧ e.zones.bank z.active = z.activeBank) ∧
      e.arbiter.replies =
        s.dev.arbiter.replies ++
          [formReply tag 0x34 .done e.status [z.generation + 1, if z.activeBank.bindings = 0 then 0 else 1]] ∧
      e.arbiter.inTransmission = s.dev.arbiter.inTransmission ∧ e = { s.dev with zones := e.zones, arbiter := e.arbiter }

/-- RETIRE NOW in RETIRING closes exactly the strokes bound to the retiring bank, with RETIRED at the execution, sends their slots to BLOCKED
or HOVER, hands their CLOSE records to the router in ascending order of slot, and completes the retiring with one APPLY_DONE; in IDLE it closes
none (R58, R71, R73, R93, R97). -/
def Obligations.RetireNowEndsRetiring : Prop :=
  ∀ (s : State) (tag : Word16) (i : Slot),
    let z := s.dev.zones
    let k := s.dev.context i
    let retired := k.isOpen = true ∧ k.generation ≠ z.generation
    s.dev.Ready → z.locked = false →
    (z.apply = .idle → Answers (.retireNow tag) s tag 0x35 .done [0] s.dev) ∧
    (z.apply = .retiring → s.dev.SlotsSound → s.dev.BanksSound →
      Leads (.retireNow tag) s fun e =>
        e.zones.apply = .idle ∧ e.zones.active = z.active ∧ e.zones.generation = z.generation ∧ e.zones.activeBank = z.activeBank ∧
        e.zones.bank z.other = { z.activeBank with blocked := Vector.replicate 17 0, bindings := 0 } ∧
        e.notices = s.dev.notices.post .applyDone none ∧
        (let m :=
          s.dev.closesRouted (fun _ => .retired) (fun _ => s.dev.clock)
            (allSlots.filter fun j => (s.dev.context j).isOpen = true ∧ (s.dev.context j).generation ≠ z.generation)
         e.router = m.router ∧ e.framer = m.framer) ∧
        e.arbiter.replies =
          s.dev.arbiter.replies ++
            [formReply tag 0x35 .done e.status [BitVec.ofNat 8 (s.dev.openBound fun g => g ≠ z.generation)]] ∧
        (retired →
          e.context i = StrokeContext.closed ∧ (e.summary i).id = k.id ∧ (e.summary i).reason = .retired ∧
            (e.summary i).count = k.count ∧ (e.summary i).closeTime = s.dev.clock ∧
            e.contact i =
              (if (s.dev.contact i).state = .inking then { s.dev.contact i with state := .blocked }
              else { s.dev.contact i with state := .hover, liftHold := none })) ∧
        (¬retired → e.context i = k ∧ e.summary i = s.dev.summary i ∧ e.contact i = s.dev.contact i) ∧
        e.pens = s.dev.pens ∧ e.filters = s.dev.filters ∧ e.clock = s.dev.clock ∧ e.receiver = s.dev.receiver ∧
        e.strokes.candidate = s.dev.strokes.candidate)

/-- The commands that set one thing set it and report it: the identity while it is unwritten, the share state and its pacer, the pacing, the
layout lock, a notice level, the line threshold with the line judged by it; FLUSH outside ENABLED sets nothing. -/
def Obligations.SettingCommandsSetOneThing : Prop :=
  ∀ (s : State) (tag classroom : Word16) (board period : Byte) (fine : BitVec 4) (k : NoticeKind) (level : BitVec 3),
    let f := s.dev.framer
    let q := s.dev.notices
    let p : Byte := if period = 0 then 1 else period
    let line : LineState :=
      if q.line = .pulsing then .pulsing else if ∃ e ∈ q.entries, level ≤ e.level then .asserted else .released
    s.dev.Ready →
    (f.written = false →
      Answers (.writeIdentity tag classroom board) s tag 0x50 .done (bytes16 classroom ++ [board])
        { s.dev with framer := { f with classroom := classroom, board := board, written := true } }) ∧
    (f.state = .disabled → f.written = true →
      Answers (.shareEnable tag) s tag 0x51 .done [1]
        { s.dev with
          framer :=
            { f with
              state := .enabled, pendingFlush := false, cycle := 0,
              timer := some (f.period.toNat + (if 0 < f.fine then 1 else 0)) } }) ∧
    (f.state = .enabled → Answers (.shareEnable tag) s tag 0x51 .done [1] s.dev) ∧
    Answers (.setPacing tag period fine) s tag 0x53 .done [p, fine.setWidth 8]
      { s.dev with framer := { f with period := p, fine := fine } } ∧
    (f.state ≠ .enabled → Answers (.flush tag) s tag 0x54 .done [0, 0] s.dev) ∧
    Answers (.lockLayout tag) s tag 0x36 .done [] { s.dev with zones := { s.dev.zones with locked := true } } ∧
    Answers (.setLevel tag (BitVec.ofNat 4 (kindNo k).val) level) s tag 0x62 .done
      [BitVec.ofNat 8 (kindNo k).val, level.setWidth 8, (q.levels[kindNo k]).setWidth 8]
      { s.dev with notices := { q with levels := q.levels.set (kindNo k) level } } ∧
    (level ≠ 0 →
      Answers (.setLineThreshold tag level) s tag 0x63 .done [level.setWidth 8, BitVec.ofNat 8 (lineNo line)]
        { s.dev with notices := { q with threshold := level, line := line } })

/-- SHARE DISABLE in ENABLED enters one SHARE_OFF close for each share-live stroke, in ascending order of slot, and leaves strokes and overlay
alone; the pacer stops and the pending flush is cleared; while records wait, frames are built into the EMPTY buffers, the lowest first, six
records in each or what is left; and DRAINING ends at once with nothing to send (R127, R135 to R138, R151). -/
def Obligations.ShareDisableClosesShareStrokes : Prop :=
  ∀ (s : State) (tag : Word16),
    let f := s.dev.framer
    let r := s.dev.router
    let live := allSlots.filter fun i =>
      (s.dev.context i).isOpen && (r.delivery (s.dev.context i).id).any (·.shareLive)
    let q := r.shareQueue ++ live.map fun i =>
      let k := s.dev.context i
      .closeRec ⟨k.id, k.count, .shareOff, ⟨k.laneGap, false, (r.delivery k.id).any (·.shareTruncated), false⟩, s.dev.clock.setWidth 16⟩
    let free := (List.finRange 2).countP fun b => f.buffers[b] = .empty
    let closed : Device :=
      { s.dev with
        framer := { f with state := .draining, pendingFlush := false, cycle := 0, timer := none }
        router :=
          { r with
            shareQueue := q
            deliveries := r.deliveries.map fun v =>
              if ∃ i ∈ live, (s.dev.context i).id = v.id then { v with shareLive := false, shareReserved := false } else v } }
    s.dev.Ready →
    (f.state ≠ .enabled → Answers (.shareDisable tag) s tag 0x52 .done [0, BitVec.ofNat 8 (shareNo f.state)] s.dev) ∧
    (f.state = .enabled → s.dev.IdsSound →
      Leads (.shareDisable tag) s fun e =>
        Device.DrainedFrames closed { e with arbiter := s.dev.arbiter } ∧ e.arbiter.inTransmission = s.dev.arbiter.inTransmission ∧
        e.framer.state = (if q = [] ∧ free = 2 then .disabled else .draining) ∧
        e.notices = (if q = [] ∧ free = 2 then s.dev.notices.post .shareDrained none else s.dev.notices) ∧
        e.framer.timer = none ∧ e.framer.cycle = 0 ∧ e.framer.pendingFlush = false ∧
        e.router.shareQueue = q.drop (6 * free) ∧
        (∀ i : Slot, (s.dev.context i).isOpen = true → (e.router.delivery (s.dev.context i).id).any (·.shareLive) = false) ∧
        e.router.overlayQueue = r.overlayQueue ∧ e.router.overlayReservations = r.overlayReservations ∧
        e.arbiter.replies =
          s.dev.arbiter.replies ++
            [formReply tag 0x52 .done e.status [BitVec.ofNat 8 live.length, BitVec.ofNat 8 (shareNo e.framer.state)]] ∧
        e = { s.dev with framer := e.framer, router := e.router, notices := e.notices, arbiter := e.arbiter })

/-- The five status items of every reply are the apply state, the lock, the identity-written flag, the share state and the overrun flag. Each
single read answers with the values as they stand and changes nothing but the reply queue; READ STATUS, wherever it is executed, shows how many
commands wait behind it and the command overrun flag, and then clears the flag; an undefined code is answered with UNKNOWN (R14, R38, R79, R150,
R159 to R161, R173). -/
def Obligations.SingleReadsReportValues : Prop :=
  ∀ (s : State) (tag : Word16) (code : Byte),
    let d := s.dev
    let z := d.zones
    let f := d.framer
    d.status =
        { retiring := decide (z.apply = .retiring), locked := z.locked, written := f.written, share := f.state,
          overrun := d.responder.overrun } ∧
    runReadStatus tag d =
        { d.answered
            (formReply tag 0x10 .done d.status
              [if d.receiver.link = .up then 1 else 0, byteNat d.responder.queue.length, if d.responder.overrun then 1 else 0,
                byteNat d.router.overlayQueue.length, byteNat d.router.overlayReservations, byteNat d.router.shareQueue.length,
                byteNat d.router.shareReservations, byteNat (z.bankA.bindings + z.bankB.bindings),
                byteNat (allSlots.countP fun i => (d.slot i).binding = .bound), byteNat d.notices.entries.length]) with
          responder := { d.responder with overrun := false } } ∧
    (d.Ready →
      (knownCode code = false → Refuses (.unknownCommand code tag) s tag code .unknown) ∧
      Becomes (.readStatus tag) s (runReadStatus tag d) ∧
      Answers (.readTime tag) s tag 0x14 .done (bytes32 d.clock) d ∧
      Answers (.readSettings tag) s tag 0x2F .done [d.pens.presenceCount, if d.pens.guestAdmission then 1 else 0] d ∧
      Answers (.readLayout tag) s tag 0x37 .done
        [byteNat (bankNo z.active), z.generation, byteNat (applyNo z.apply), if z.locked then 1 else 0,
          byteNat z.activeBank.bindings, if z.apply = .retiring then byteNat (z.bank z.other).bindings else 0] d ∧
      Answers (.readShare tag) s tag 0x55 .done
        ([byteNat (shareNo f.state), if f.written then 1 else 0] ++ bytes16 f.classroom ++
          [f.board, f.period, f.fine.setWidth 8, f.cycle.setWidth 8] ++ bytes16 f.nextSequence ++
          [if f.pendingFlush then 1 else 0, byteNat (bufferNo f.buffers[0]), byteNat f.buffers[0].count,
            byteNat (bufferNo f.buffers[1]), byteNat f.buffers[1].count]) d ∧
      Answers (.fetch tag) s tag 0x60 .done
        ((match d.notices.entries with
          | [] => [1, 0, 0, 0, 0]
          | e :: _ => [0, byteNat (kindNo e.kind).val, byteNat (subjectNo e.subject), e.level.setWidth 8, e.repeats]) ++
          [byteNat d.notices.entries.length, if d.notices.overrun then 1 else 0]) d)

/-- Each range read that passes its checks forms one reply per item, in order, while the reply queue has room, and waits in READING for the
rest; each further item is an event of its own, which leaves the waiting commands alone while items remain and makes the taking test once the
read has ended, with its last item or with BUSY. READ COUNTERS clears, where asked, exactly the counters carried, with each item. The payload of
each item is that of Figure 11-6, byte by byte, with the numbers of Figure 11-1 and the counters of Figure 9-4 (R28, R31, R78, R101, R154, R157,
R162, R163, R181). -/
def Obligations.RangeReadsAnswerItemByItem : Prop :=
  ∀ (s : State) (tag : Word16) (first last part : Byte) (g : BitVec 3) (clear on : Bool) (r : RangeRead) (j : Fin 8) (c : Fin 4)
    (i : Slot) (z : Fin 16) (n : Nat),
    let d := s.dev
    let a := first.toNat
    let b := last.toNat
    let items := if g = 0 then 2 else if g = 2 then 5 else 1
    let carried := 4 * min items (4 - d.arbiter.replies.length)
    let b2 := fun x : Word16 => [x.extractLsb' 8 8, x.extractLsb' 0 8]
    let b3 := fun x : Word24 => [x.extractLsb' 16 8, x.extractLsb' 8 8, x.extractLsb' 0 8]
    let b4 := fun x : Word32 => [x.extractLsb' 24 8, x.extractLsb' 16 8, x.extractLsb' 8 8, x.extractLsb' 0 8]
    let no := BitVec.ofNat 8
    let bit := fun (x : Bool) (k : Nat) => if x then 2 ^ k else 0
    let flag := fun x : Bool => no (bit x 0)
    let attr := fun (x : Role) (y : Group) (w : BitVec 4) => no ((roleBits x).toNat + 4 * y.val + 16 * w.toNat)
    let block := fun p : Profile =>
      b2 (p.down.setWidth 16) ++ b2 (p.up.setWidth 16) ++
        [no (p.liftHold.toNat + 64 * p.curve.toNat), no (p.settleCount.toNat + 8 * p.smoothing.toNat + bit p.buttonErase 7), p.minStep,
          p.eraserWidth]
    let st := fun x : Steering => (steeringBits x).toNat
    let ruleBytes := fun x : ZoneRules =>
      [no (st x.steering.group0 + 4 * st x.steering.group1 + 16 * st x.steering.group2 + 64 * st x.steering.group3),
        no (bit x.eraseAllowed 0 + bit x.guarded 1), x.widthCap]
    let e := d.pens.admission[j]
    let p := d.slot i
    let k := d.context i
    let m := d.summary i
    let name := if on then d.zones.other else d.zones.active
    let bank := d.zones.bank name
    let area := bank.zones[z]
    let counters := ((d.groupCounters g).drop (4 * n)).take 4
    (d.Ready → a ≤ b →
      (b ≤ 7 → Leads (.readAdmission tag first last) s (Device.TookPlainRead tag .admission a b d)) ∧
      (b ≤ 3 → Leads (.readProfile tag first last) s (Device.TookPlainRead tag .profile a b d)) ∧
      (b ≤ 3 → Leads (.readCurve tag first last) s (Device.TookPlainRead tag .curve a b d)) ∧
      (b ≤ 11 → part ≤ 2 → Leads (.readSlot tag first last part) s (Device.TookPlainRead tag (.slot part) a b d)) ∧
      (b ≤ 11 → part ≤ 1 → Leads (.readStroke tag first last part) s (Device.TookPlainRead tag (.stroke part) a b d)) ∧
      (b ≤ 16 → Leads (.readZone tag 0 first last) s (Device.TookPlainRead tag (.zone false) a b d)) ∧
      (b ≤ 16 → d.zones.apply = .idle → Leads (.readZone tag 1 first last) s (Device.TookPlainRead tag (.zone true) a b d))) ∧
    (d.Ready → g ≤ 4 →
      Leads (.readCounters tag g clear) s fun e =>
        Device.TookRead tag (.counters g clear) 0 (items - 1) d e ∧
        (clear = false → e = { d with arbiter := e.arbiter, responder := e.responder }) ∧
        (clear = true → Device.Cleared g 0 carried d e)) ∧
    (d.responder.reading = some r → d.arbiter.replies.length < 4 →
      (r.target = .zone true ∧ d.zones.apply = .retiring →
        Leads .rangeReadNextItem s
          (Device.TakesOldest
            { d.answered (formReply r.tag 0x33 .busy d.status []) with responder := { d.responder with reading := none } })) ∧
      (¬(r.target = .zone true ∧ d.zones.apply = .retiring) → (∀ h : BitVec 3, r.target ≠ .counters h true) →
        Leads .rangeReadNextItem s
          (Device.TakesOldest
            { d.answered (formReply r.tag r.target.code .done d.status (d.itemPayload r.target r.next)) with
              responder :=
                { d.responder with reading := if r.next < r.last then some { r with next := r.next + 1 } else none } })) ∧
      (r.target = .counters g true → 4 * r.next < (d.groupCounters g).length →
        Leads .rangeReadNextItem s fun e =>
          ∃ m : Device,
            m.arbiter =
                { d.arbiter with
                  replies :=
                    d.arbiter.replies ++ [formReply r.tag 0x11 .done d.status (d.itemPayload (.counters g true) r.next)] } ∧
              m.responder =
                { d.responder with reading := if r.next < r.last then some { r with next := r.next + 1 } else none } ∧
              Device.Cleared g (4 * r.next) (4 * r.next + 4) d m ∧ m.TakesOldest e)) ∧
    d.itemPayload .admission j.val =
      [no j.val, flag e.enable] ++ b3 e.matchValue ++ b3 e.mask ++ [attr e.role e.group e.colour, no e.profile.toNat] ∧
    d.itemPayload .profile c.val = no c.val :: block d.pens.profiles[c] ∧
    d.itemPayload .curve c.val = no c.val :: (List.finRange 9).map (fun y => (d.pens.curves[c])[y]) ∧
    d.itemPayload (.slot 0) i.val =
      [no i.val, 0, flag p.enabled, flag (p.binding = .bound)] ++ b3 p.transducer ++
        [no p.lane.val, attr p.role p.group p.colour, no (contactNo (d.contact i).state), flag p.captureArmed,
          (d.contact i).shortContacts] ++
        b4 p.lastSeen ∧
    d.itemPayload (.slot 1) i.val = [no i.val, 1] ++ block p.params ∧
    d.itemPayload (.slot 2) i.val =
      [no i.val, 2] ++ b2 (BitVec.ofInt 16 p.offsetX) ++ b2 (BitVec.ofInt 16 p.offsetY) ++ [flag p.captureArmed] ++ b2 p.targetX ++
        b2 p.targetY ∧
    d.itemPayload (.zone on) z.val =
      [no z.val, flag (name = .b), flag area.enable] ++ b2 area.xMin ++ b2 area.xMax ++ b2 area.yMin ++ b2 area.yMax ++
        ruleBytes area.rules ++ b2 bank.blocked[z.castSucc] ∧
    d.itemPayload (.zone on) 16 =
      [16, flag (name = .b), 0, 0, 0, 0, 0, 0, 0, 0, 0] ++ ruleBytes bank.openArea ++ b2 bank.blocked[openAreaNo] ∧
    d.itemPayload (.stroke 0) i.val =
      [no i.val, 0, no (bit k.isOpen 0 + bit (k.penEnd = .eraser) 1 + bit k.laneGap 2 + bit k.continued 3)] ++ b2 k.id ++
        [attr k.role k.group k.colour, no k.zone.val, k.generation, no (st k.steering), k.widthCap] ++ b4 k.openTime ++
        b2 k.sequence ++ b2 k.count ++ b2 k.lastX ++ b2 k.lastY ++ [k.lastWidth] ∧
    d.itemPayload (.stroke 1) i.val =
      [no i.val, 1] ++ b2 m.id ++ [no (reasonNo m.reason)] ++ b2 m.count ++
        [flag (m.penEnd = .eraser), no m.zone.val, m.generation] ++ b4 m.openTime ++ b4 m.closeTime ++
        [no (bit m.flags.laneGap 0 + bit m.flags.overlayGap 1 + bit m.flags.shareTruncated 2 + bit m.flags.coalesced 3 +
          bit m.flags.continued 4 + bit m.flags.overlaySuppressed 5)] ∧
    d.itemPayload (.counters g on) n =
      [no g.toNat, no n, no (4 * n), no counters.length] ++ counters.flatMap b2 ++ List.replicate (8 - 2 * counters.length) 0 ++
        [if g = 2 then flag (d.zones.active = .b) else 0] ∧
    d.groupCounters 0 =
      (List.finRange 4).map (fun l => (d.lane l).badCells) ++ (List.finRange 4).map (fun l => (d.lane l).gaps) ∧
    d.groupCounters 1 = [d.pens.binds, d.pens.evictions, d.pens.misses, d.pens.tableFull] ∧
    d.groupCounters 2 = (List.finRange 17).map (fun y => d.zones.activeBank.blocked[y]) ∧
    d.groupCounters 3 =
      [d.router.coalescedSegs, d.router.droppedSegs, d.router.suppressedStrokes, d.router.truncatedStrokes] ∧
    d.groupCounters 4 = [d.framer.framesBuilt, d.framer.recordsFramed, d.framer.deferredFlushes] ∧
    [ReadTarget.admission, .profile, .curve, .slot part, .zone on, .stroke part, .counters g on].map ReadTarget.code =
      [0x21, 0x23, 0x25, 0x26, 0x33, 0x40, 0x11] ∧
    [Role.teacher, .student, .guest].map roleBits = [0, 1, 2] ∧ [Steering.off, .localInk, .shareInk, .both].map steeringBits = [0, 1, 2, 3] ∧
    [ContactState.free, .away, .hover, .settling, .inking, .holding, .blocked, .capture].map contactNo = List.range 8 ∧
    [CloseReason.noReason, .lift, .lost, .zoneExit, .endChange, .forced, .retired, .shareOff].map reasonNo = List.range 8

/-- SET TIME moves the clock and the last-seen times of BOUND slots with it, so that every age stays (R15); CLEAR COUNTERS sets every counter
of the five groups to 0, in both banks, and changes nothing else (R164). -/
def Obligations.ClockAndCountersAreSet : Prop :=
  ∀ (s : State) (tag : Word16) (v : Word32) (i : Slot) (g : BitVec 3),
    s.dev.Ready →
    Leads (.setTime tag v) s (fun e =>
      e.clock = v ∧ e.slot i = { s.dev.slot i with lastSeen := (e.slot i).lastSeen } ∧
      ((s.dev.slot i).binding = .bound → e.age (e.slot i).lastSeen = s.dev.age (s.dev.slot i).lastSeen) ∧
      ((s.dev.slot i).binding = .free → e.slot i = s.dev.slot i) ∧
      e.arbiter.replies = s.dev.arbiter.replies ++ [formReply tag 0x15 .done s.dev.status (bytes32 s.dev.clock)] ∧
      e.arbiter.inTransmission = s.dev.arbiter.inTransmission ∧
      e = { s.dev with clock := v, pens := { s.dev.pens with slots := e.pens.slots }, arbiter := e.arbiter }) ∧
    Leads (.clearCounters tag) s (fun e =>
      (∀ c ∈ e.groupCounters g, c = 0) ∧
      (∀ l : Lane, e.lane l = ⟨(s.dev.lane l).expected, 0, 0⟩) ∧
      e.zones =
        { s.dev.zones with
          bankA := { s.dev.zones.bankA with blocked := Vector.replicate 17 0 }
          bankB := { s.dev.zones.bankB with blocked := Vector.replicate 17 0 } } ∧
      e.arbiter.replies = s.dev.arbiter.replies ++ [formReply tag 0x12 .done s.dev.status []] ∧
      e.arbiter.inTransmission = s.dev.arbiter.inTransmission ∧
      e =
        { s.dev with
          receiver := { s.dev.receiver with lanes := e.receiver.lanes }
          pens := { s.dev.pens with binds := 0, evictions := 0, misses := 0, tableFull := 0 }
          zones := e.zones
          router := { s.dev.router with coalescedSegs := 0, droppedSegs := 0, suppressedStrokes := 0, truncatedStrokes := 0 }
          framer := { s.dev.framer with framesBuilt := 0, recordsFramed := 0, deferredFlushes := 0 }
          arbiter := e.arbiter })

/-- RESTART discards bindings, strokes, queued records, HELD frames, replies, commands, counters and notices, lets a unit in transmission
complete, and keeps the tables, the layout in force with its lock and generation, identity, pacing, levels and clock (R165, R166). -/
def Obligations.RestartKeepsConfiguration : Prop :=
  ∀ (s : State) (tag : Word16) (i : Slot) (b : Fin 2) (n : BankName),
    let d := s.dev
    let e := runRestart tag d
    (d.Ready → Becomes (.restart tag) s e) ∧
    e.receiver.link = d.receiver.link ∧ e.receiver.ingressReady = d.receiver.ingressReady ∧
    (∀ l : Lane, e.lane l = ⟨none, 0, 0⟩) ∧ e.clock = d.clock ∧
    e.slot i =
      { PenSlot.reset with
        enabled := (d.slot i).enabled, role := (d.slot i).role, group := (d.slot i).group, colour := (d.slot i).colour,
        params := (d.slot i).params } ∧
    e.pens = { d.pens with slots := e.pens.slots, binds := 0, evictions := 0, misses := 0, tableFull := 0 } ∧
    e.contact i = ⟨.free, 0, .ended, 0, none, none, 0⟩ ∧ e.filter i = ⟨0, 0⟩ ∧ e.context i = StrokeContext.closed ∧
    e.summary i = Summary.reset ∧ e.strokes.candidate = 1 ∧
    e.zones.active = d.zones.active ∧ e.zones.generation = d.zones.generation ∧ e.zones.locked = d.zones.locked ∧
    e.zones.apply = .idle ∧ e.zones.layout = d.zones.layout ∧ (e.zones.bank n).blocked = Vector.replicate 17 0 ∧
    (e.zones.bank n).bindings = 0 ∧
    ((e.zones.bank e.zones.other).zones, (e.zones.bank e.zones.other).openArea) =
      (if d.zones.apply = .retiring then d.zones.layout
      else ((d.zones.bank d.zones.other).zones, (d.zones.bank d.zones.other).openArea)) ∧
    e.router = ⟨[], if d.router.overlayTx.isSome then d.router.overlayQueue.take 1 else [], d.router.overlayTx, [], 0, 0, 0, 0⟩ ∧
    e.framer =
      { ShareFramer.reset with
        written := d.framer.written, classroom := d.framer.classroom, board := d.framer.board, period := d.framer.period,
        fine := d.framer.fine, buffers := e.framer.buffers } ∧
    e.framer.buffers[b] = (if (d.framer.buffers[b]).isSending then d.framer.buffers[b] else .empty) ∧
    e.arbiter.inTransmission = d.arbiter.inTransmission ∧
    e.arbiter.replies =
      (match d.arbiter.inTransmission with
        | some (.reply _) => d.arbiter.replies.take 1
        | _ => []) ++
        [formReply tag 0x13 .done e.status
          [byteNat d.responder.queue.length, byteNat (allSlots.countP fun j => (d.context j).isOpen)]] ∧
    e.responder = ⟨[], false, none⟩ ∧
    e.notices = { d.notices with entries := [], overrun := false, line := .released, arrivals := 0 }

/-- A refused command changes no state but the reply queue, and the first check that fails names the result: RANGE before LOCKED, LOCKED
before BUSY, then STATE and WRITTEN (R26, R68, R158, R159). -/
def Obligations.RefusedCommandsOnlyReply : Prop :=
  ∀ (s : State) (tag c : Word16) (slot : BitVec 4) (zone : BitVec 5) (n : BitVec 2) (g l : BitVec 3) (first last part : Byte)
    (on : Bool) (m k : Word24) (attr : AttributeBits) (block : Profile) (x y u v : Word16) (rules : ZoneRules) (i : Slot),
    let z := s.dev.zones
    let away := fun limit : Nat => last < first ∨ limit < last.toNat
    s.dev.Ready →
    (8 ≤ slot.toNat ∨ attr.role = 3 → Refuses (.writeAdmission tag slot on m k attr n) s tag 0x20 .range) ∧
    (away 7 → Refuses (.readAdmission tag first last) s tag 0x21 .range) ∧
    (away 3 → Refuses (.readProfile tag first last) s tag 0x23 .range ∧ Refuses (.readCurve tag first last) s tag 0x25 .range) ∧
    (away 11 ∨ 2 < part → Refuses (.readSlot tag first last part) s tag 0x26 .range) ∧
    (away 11 ∨ 1 < part → Refuses (.readStroke tag first last part) s tag 0x40 .range) ∧
    (away 16 ∨ 1 < n → Refuses (.readZone tag n first last) s tag 0x33 .range) ∧
    (4 < g → Refuses (.readCounters tag g on) s tag 0x11 .range) ∧
    (12 ≤ slot.toNat ∨ attr.role = 3 → Refuses (.writeSlotParameters tag slot block attr) s tag 0x27 .range) ∧
    (12 ≤ slot.toNat →
      Refuses (.setOffset tag slot x y) s tag 0x28 .range ∧ Refuses (.setSlotEnable tag slot on) s tag 0x29 .range ∧
      Refuses (.unbind tag slot) s tag 0x2A .range ∧ Refuses (.forceLeave tag slot) s tag 0x2B .range ∧
      Refuses (.captureOffset tag slot x y) s tag 0x2C .range ∧ Refuses (.cancelCapture tag slot) s tag 0x2D .range) ∧
    (slot = BitVec.ofNat 4 i.val → (s.dev.slot i).binding = .free →
      Refuses (.unbind tag slot) s tag 0x2A .state ∧ Refuses (.forceLeave tag slot) s tag 0x2B .state ∧
      Refuses (.captureOffset tag slot x y) s tag 0x2C .state ∧ Refuses (.cancelCapture tag slot) s tag 0x2D .state) ∧
    (16 ≤ zone.toNat →
      Refuses (.writeZoneRect tag zone x y u v) s tag 0x30 .range ∧ Refuses (.writeZoneAttributes tag zone on rules) s tag 0x31 .range) ∧
    (z.locked = true →
      (zone.toNat < 16 →
        Refuses (.writeZoneRect tag zone x y u v) s tag 0x30 .locked ∧
        Refuses (.writeZoneAttributes tag zone on rules) s tag 0x31 .locked) ∧
      Refuses (.writeOpenArea tag rules) s tag 0x32 .locked ∧ Refuses (.apply tag) s tag 0x34 .locked ∧
      Refuses (.retireNow tag) s tag 0x35 .locked) ∧
    (z.apply = .retiring →
      (z.locked = false →
        (zone.toNat < 16 →
          Refuses (.writeZoneRect tag zone x y u v) s tag 0x30 .busy ∧
          Refuses (.writeZoneAttributes tag zone on rules) s tag 0x31 .busy) ∧
        Refuses (.writeOpenArea tag rules) s tag 0x32 .busy ∧ Refuses (.apply tag) s tag 0x34 .busy) ∧
      (¬away 16 → Refuses (.readZone tag 1 first last) s tag 0x33 .busy)) ∧
    (s.dev.framer.state = .draining → Refuses (.shareEnable tag) s tag 0x51 .busy) ∧
    (s.dev.framer.state = .disabled → s.dev.framer.written = false → Refuses (.shareEnable tag) s tag 0x51 .state) ∧
    (s.dev.framer.written = true →
      Answers (.writeIdentity tag c part) s tag 0x50 .written (bytes16 s.dev.framer.classroom ++ [s.dev.framer.board]) s.dev) ∧
    (13 ≤ slot.toNat → Refuses (.setLevel tag slot l) s tag 0x62 .range) ∧
    (13 ≤ slot.toNat ∨ 17 ≤ zone.toNat ∧ zone ≠ 31 → Refuses (.ack tag slot zone) s tag 0x61 .range) ∧
    (slot.toNat < 13 → zone.toNat < 17 ∨ zone = 31 →
      (∀ e ∈ s.dev.notices.entries, (kindNo e.kind).val ≠ slot.toNat ∨ subjectNo e.subject ≠ zone.toNat) →
      Refuses (.ack tag slot zone) s tag 0x61 .state) ∧
    Refuses (.setLineThreshold tag 0) s tag 0x63 .range

/-- The taking test takes the oldest waiting command, and again after each execution while it may; with one place left in the reply queue it
takes one, and the others wait on in their order, unless that one is RESTART. A command taken from the queue does what it does with none
waiting, but for what READ STATUS and RESTART report. A COMMAND cell on an UP link enters at the tail and the test is made, so that it is
executed at once where the responder may take it and none waits; at 8 waiting it is dropped with the overrun flag and COMMAND_OVERRUN (R6,
R153 to R155). A command row that must wait does the same, whatever the link state: the model's choice (log entry 2). -/
def Obligations.CommandsQueueAndOverrun : Prop :=
  ∀ (s : State) (cell : Cell) (c : Command) (i : Instr) (waiting : List Command),
    let d := s.dev
    let q := d.responder.queue
    let first := runCommand (decodeCommand c) { d with responder := { d.responder with queue := waiting } }
    let alone := runCommand (decodeCommand c) { d with responder := { d.responder with queue := [] } }
    let entered : Device := { d with responder := { d.responder with queue := q ++ [c] } }
    let full := { d with responder := { d.responder with overrun := true }, notices := d.notices.post .commandOverrun none }
    d.TakesOldest d.takingTest ∧
    (q = c :: waiting → d.responder.reading = none → d.arbiter.replies.length = 3 →
      d.takingTest = first ∧ first.responder.queue = if c.code = 0x13 then [] else waiting) ∧
    (c.code ≠ 0x10 → c.code ≠ 0x13 → first = { alone with responder := { alone.responder with queue := waiting } }) ∧
    (d.receiver.link = .up → classify cell = .command c →
      (q.length < 8 → Leads (.commandCell cell) s entered.TakesOldest) ∧
      (d.Ready → Becomes (.commandCell cell) s (runCommand (decodeCommand c) d)) ∧
      (8 ≤ q.length → Becomes (.commandCell cell) s full) ∧
      (d.responder.reading ≠ none ∨ 4 ≤ d.arbiter.replies.length → q.length < 8 →
        Becomes (.commandCell cell) s entered)) ∧
    (encodeCommand i = some c → ¬d.Ready → q.length < 8 → Leads i s entered.TakesOldest) ∧
    (encodeCommand i = some c → 8 ≤ q.length → Becomes i s full) ∧
    (encodeCommand i = some c → d.responder.reading ≠ none ∨ 4 ≤ d.arbiter.replies.length → q.length < 8 →
      Becomes i s entered)

/-! ## Encodings (Chapter 11) -/

/-- Every command survives its cell: its code, tag and operand bytes decode to the very command, with every operand at every value that its
field admits (R179). -/
def Obligations.CommandRoundTrip : Prop :=
  ∀ (i : Instr) (c : Command), i.wellFormed = true → encodeCommand i = some c → decodeCommand c = i

/-- A cell made of any fields passes its checks and is read back as those fields (R4 to R7, R179). A command sent in a COMMAND cell on an UP link
does what its own row does, which the model takes for that command at the responder: its choice (log entry 2). -/
def Obligations.CellsCarryTheirFields : Prop :=
  ∀ (l : Lane) (n : BitVec 4) (f : SampleFields) (t : Word24) (ev : ProximityEvent) (c : Command) (i : Instr) (s : State),
    classify (encodeSample l n f) = .sample l n f ∧ classify (encodeProximity l n t ev) = .proximity l n t ev ∧
    classify (encodeCommandCell c) = .command c ∧
    (s.dev.receiver.link = .up → i.wellFormed = true → encodeCommand i = some c →
      exec (.commandCell (encodeCommandCell c)) s = exec i s)

/-! ## Invariants of every step -/

/-- Every step keeps the notice queue sound: at most 16 entries in queue order, one per kind and subject, and a line that follows its
condition (R169, R170, R175). -/
def Obligations.NoticesStaySound : Prop :=
  ∀ (s t : State), step s = .next t → s.dev.notices.Sound → t.dev.notices.Sound

/-- Every step keeps the bounds of the queues: places taken and owed on the overlay and share queues, commands, replies, and frame buffers
that are HELD or SENDING as their order and the egress say; and no command is left waiting that could be taken (R118, R120, R137, R147, R148,
R153, R154). -/
def Obligations.QueuesStayWithinBounds : Prop :=
  ∀ (s t : State), step s = .next t →
    (s.dev.router.Sound → t.dev.router.Sound) ∧
    (s.dev.QueuesSound → t.dev.QueuesSound) ∧ (s.dev.FramesSound → t.dev.FramesSound)

/-- Every step keeps binding, contact state, stroke and timers of each slot in agreement, and no pen bound twice (R21, R41, R52, R81). -/
def Obligations.SlotsStaySound : Prop :=
  ∀ (s t : State), step s = .next t → (s.dev.SlotsSound → t.dev.SlotsSound) ∧ (s.dev.PensSound → t.dev.PensSound)

/-- Every step keeps stroke ids distinct and nonzero, and one delivery record for each open stroke (R83, R118). -/
def Obligations.StrokeIdsStayDistinct : Prop :=
  ∀ (s t : State), step s = .next t → s.dev.SlotsSound → s.dev.IdsSound →
    t.dev.IdsSound ∧ (s.dev.DeliveriesSound → t.dev.DeliveriesSound)

/-- Every step keeps the binding counts equal to the strokes bound to each bank, RETIRING tied to the retiring bank's count, and every open
stroke permitted by the rules of the zone that it is bound to (R63, R64, R67, R70). -/
def Obligations.BankCountsStayTrue : Prop :=
  ∀ (s t : State), step s = .next t → s.dev.SlotsSound → s.dev.BanksSound →
    t.dev.BanksSound ∧ (s.dev.PermitsSound → t.dev.PermitsSound)

/-- Every step keeps the share path in order: the pacer runs in ENABLED alone, no stroke is share-live outside it, a draining has something
left to send, and sharing runs under a written identity (R132, R134, R136, R142). -/
def Obligations.SharePathStaysSound : Prop :=
  ∀ (s t : State), step s = .next t → s.dev.SlotsSound → s.dev.IdsSound → s.dev.DeliveriesSound → s.dev.ShareSound →
    t.dev.ShareSound

/-- Every step keeps filter values, stored settings and stroke widths in their ranges (R19, R20, R33, R38, R108, R115, R144). -/
def Obligations.ValuesStayInRange : Prop :=
  ∀ (s t : State), step s = .next t →
    (s.dev.FiltersSound → t.dev.FiltersSound) ∧
    (s.dev.SettingsSound → t.dev.SettingsSound ∧ (s.dev.WidthsSound → t.dev.WidthsSound))

/-! ## Whole-machine rules -/

/-- Until a hard reset, no step clears the layout lock or changes the layout in force under it, and none changes a written identity
(R74, R133). -/
def Obligations.LockAndIdentityHold : Prop :=
  ∀ (i : Instr) (s t : State),
    exec i s = .next t → isHardReset i = false →
    (s.dev.zones.locked = true →
      t.dev.zones.locked = true ∧ t.dev.zones.active = s.dev.zones.active ∧ t.dev.zones.generation = s.dev.zones.generation ∧
        t.dev.zones.layout = s.dev.zones.layout) ∧
    (s.dev.framer.written = true →
      t.dev.framer.written = true ∧ t.dev.framer.classroom = s.dev.framer.classroom ∧ t.dev.framer.board = s.dev.framer.board)

/-- With no command waiting, only APPLY moves the bank exchange, its generation and the layout in force, and only the tick and SET TIME move
the session clock, hard reset apart: no pen, no link event, no egress event and no other command does (R11, R15, R66, R69). -/
def Obligations.LayoutAndClockMoveByTheirStepsAlone : Prop :=
  ∀ (i : Instr) (s t : State),
    exec i s = .next t → i.wellFormed = true → s.dev.responder.queue = [] →
    (mayMoveLayout i = false →
      t.dev.zones.active = s.dev.zones.active ∧ t.dev.zones.generation = s.dev.zones.generation ∧
        t.dev.zones.layout = s.dev.zones.layout) ∧
    (mayMoveClock i = false → t.dev.clock = s.dev.clock)
end

