-- ==== Sys2Proof/Laws/State.lean ====
section
/-! SUPPORT. One lemma per field of `Device` per update: what the update leaves alone. The reads of what an update writes follow. -/

namespace Sys2Proof.Machine

variable (d : Device)

/-! ## setSlot -/

@[simp] theorem Device.setSlot_receiver (i : Slot) (p : PenSlot) : (d.setSlot i p).receiver = d.receiver := rfl
@[simp] theorem Device.setSlot_clock (i : Slot) (p : PenSlot) : (d.setSlot i p).clock = d.clock := rfl
@[simp] theorem Device.setSlot_contacts (i : Slot) (p : PenSlot) : (d.setSlot i p).contacts = d.contacts := rfl
@[simp] theorem Device.setSlot_zones (i : Slot) (p : PenSlot) : (d.setSlot i p).zones = d.zones := rfl
@[simp] theorem Device.setSlot_filters (i : Slot) (p : PenSlot) : (d.setSlot i p).filters = d.filters := rfl
@[simp] theorem Device.setSlot_strokes (i : Slot) (p : PenSlot) : (d.setSlot i p).strokes = d.strokes := rfl
@[simp] theorem Device.setSlot_router (i : Slot) (p : PenSlot) : (d.setSlot i p).router = d.router := rfl
@[simp] theorem Device.setSlot_framer (i : Slot) (p : PenSlot) : (d.setSlot i p).framer = d.framer := rfl
@[simp] theorem Device.setSlot_arbiter (i : Slot) (p : PenSlot) : (d.setSlot i p).arbiter = d.arbiter := rfl
@[simp] theorem Device.setSlot_responder (i : Slot) (p : PenSlot) : (d.setSlot i p).responder = d.responder := rfl
@[simp] theorem Device.setSlot_notices (i : Slot) (p : PenSlot) : (d.setSlot i p).notices = d.notices := rfl

/-! ## setContact -/

@[simp] theorem Device.setContact_receiver (i : Slot) (c : Contact) : (d.setContact i c).receiver = d.receiver := rfl
@[simp] theorem Device.setContact_clock (i : Slot) (c : Contact) : (d.setContact i c).clock = d.clock := rfl
@[simp] theorem Device.setContact_pens (i : Slot) (c : Contact) : (d.setContact i c).pens = d.pens := rfl
@[simp] theorem Device.setContact_zones (i : Slot) (c : Contact) : (d.setContact i c).zones = d.zones := rfl
@[simp] theorem Device.setContact_filters (i : Slot) (c : Contact) : (d.setContact i c).filters = d.filters := rfl
@[simp] theorem Device.setContact_strokes (i : Slot) (c : Contact) : (d.setContact i c).strokes = d.strokes := rfl
@[simp] theorem Device.setContact_router (i : Slot) (c : Contact) : (d.setContact i c).router = d.router := rfl
@[simp] theorem Device.setContact_framer (i : Slot) (c : Contact) : (d.setContact i c).framer = d.framer := rfl
@[simp] theorem Device.setContact_arbiter (i : Slot) (c : Contact) : (d.setContact i c).arbiter = d.arbiter := rfl
@[simp] theorem Device.setContact_responder (i : Slot) (c : Contact) : (d.setContact i c).responder = d.responder := rfl
@[simp] theorem Device.setContact_notices (i : Slot) (c : Contact) : (d.setContact i c).notices = d.notices := rfl

/-! ## setContext -/

@[simp] theorem Device.setContext_receiver (i : Slot) (c : StrokeContext) : (d.setContext i c).receiver = d.receiver := rfl
@[simp] theorem Device.setContext_clock (i : Slot) (c : StrokeContext) : (d.setContext i c).clock = d.clock := rfl
@[simp] theorem Device.setContext_pens (i : Slot) (c : StrokeContext) : (d.setContext i c).pens = d.pens := rfl
@[simp] theorem Device.setContext_contacts (i : Slot) (c : StrokeContext) : (d.setContext i c).contacts = d.contacts := rfl
@[simp] theorem Device.setContext_zones (i : Slot) (c : StrokeContext) : (d.setContext i c).zones = d.zones := rfl
@[simp] theorem Device.setContext_filters (i : Slot) (c : StrokeContext) : (d.setContext i c).filters = d.filters := rfl
@[simp] theorem Device.setContext_router (i : Slot) (c : StrokeContext) : (d.setContext i c).router = d.router := rfl
@[simp] theorem Device.setContext_framer (i : Slot) (c : StrokeContext) : (d.setContext i c).framer = d.framer := rfl
@[simp] theorem Device.setContext_arbiter (i : Slot) (c : StrokeContext) : (d.setContext i c).arbiter = d.arbiter := rfl
@[simp] theorem Device.setContext_responder (i : Slot) (c : StrokeContext) : (d.setContext i c).responder = d.responder := rfl
@[simp] theorem Device.setContext_notices (i : Slot) (c : StrokeContext) : (d.setContext i c).notices = d.notices := rfl

/-! ## setSummary -/

@[simp] theorem Device.setSummary_receiver (i : Slot) (c : Summary) : (d.setSummary i c).receiver = d.receiver := rfl
@[simp] theorem Device.setSummary_clock (i : Slot) (c : Summary) : (d.setSummary i c).clock = d.clock := rfl
@[simp] theorem Device.setSummary_pens (i : Slot) (c : Summary) : (d.setSummary i c).pens = d.pens := rfl
@[simp] theorem Device.setSummary_contacts (i : Slot) (c : Summary) : (d.setSummary i c).contacts = d.contacts := rfl
@[simp] theorem Device.setSummary_zones (i : Slot) (c : Summary) : (d.setSummary i c).zones = d.zones := rfl
@[simp] theorem Device.setSummary_filters (i : Slot) (c : Summary) : (d.setSummary i c).filters = d.filters := rfl
@[simp] theorem Device.setSummary_router (i : Slot) (c : Summary) : (d.setSummary i c).router = d.router := rfl
@[simp] theorem Device.setSummary_framer (i : Slot) (c : Summary) : (d.setSummary i c).framer = d.framer := rfl
@[simp] theorem Device.setSummary_arbiter (i : Slot) (c : Summary) : (d.setSummary i c).arbiter = d.arbiter := rfl
@[simp] theorem Device.setSummary_responder (i : Slot) (c : Summary) : (d.setSummary i c).responder = d.responder := rfl
@[simp] theorem Device.setSummary_notices (i : Slot) (c : Summary) : (d.setSummary i c).notices = d.notices := rfl

/-! ## setFilter -/

@[simp] theorem Device.setFilter_receiver (i : Slot) (v : FilterValue) : (d.setFilter i v).receiver = d.receiver := rfl
@[simp] theorem Device.setFilter_clock (i : Slot) (v : FilterValue) : (d.setFilter i v).clock = d.clock := rfl
@[simp] theorem Device.setFilter_pens (i : Slot) (v : FilterValue) : (d.setFilter i v).pens = d.pens := rfl
@[simp] theorem Device.setFilter_contacts (i : Slot) (v : FilterValue) : (d.setFilter i v).contacts = d.contacts := rfl
@[simp] theorem Device.setFilter_zones (i : Slot) (v : FilterValue) : (d.setFilter i v).zones = d.zones := rfl
@[simp] theorem Device.setFilter_strokes (i : Slot) (v : FilterValue) : (d.setFilter i v).strokes = d.strokes := rfl
@[simp] theorem Device.setFilter_router (i : Slot) (v : FilterValue) : (d.setFilter i v).router = d.router := rfl
@[simp] theorem Device.setFilter_framer (i : Slot) (v : FilterValue) : (d.setFilter i v).framer = d.framer := rfl
@[simp] theorem Device.setFilter_arbiter (i : Slot) (v : FilterValue) : (d.setFilter i v).arbiter = d.arbiter := rfl
@[simp] theorem Device.setFilter_responder (i : Slot) (v : FilterValue) : (d.setFilter i v).responder = d.responder := rfl
@[simp] theorem Device.setFilter_notices (i : Slot) (v : FilterValue) : (d.setFilter i v).notices = d.notices := rfl

/-! ## setLane -/

@[simp] theorem Device.setLane_clock (l : Lane) (v : LaneState) : (d.setLane l v).clock = d.clock := rfl
@[simp] theorem Device.setLane_pens (l : Lane) (v : LaneState) : (d.setLane l v).pens = d.pens := rfl
@[simp] theorem Device.setLane_contacts (l : Lane) (v : LaneState) : (d.setLane l v).contacts = d.contacts := rfl
@[simp] theorem Device.setLane_zones (l : Lane) (v : LaneState) : (d.setLane l v).zones = d.zones := rfl
@[simp] theorem Device.setLane_filters (l : Lane) (v : LaneState) : (d.setLane l v).filters = d.filters := rfl
@[simp] theorem Device.setLane_strokes (l : Lane) (v : LaneState) : (d.setLane l v).strokes = d.strokes := rfl
@[simp] theorem Device.setLane_router (l : Lane) (v : LaneState) : (d.setLane l v).router = d.router := rfl
@[simp] theorem Device.setLane_framer (l : Lane) (v : LaneState) : (d.setLane l v).framer = d.framer := rfl
@[simp] theorem Device.setLane_arbiter (l : Lane) (v : LaneState) : (d.setLane l v).arbiter = d.arbiter := rfl
@[simp] theorem Device.setLane_responder (l : Lane) (v : LaneState) : (d.setLane l v).responder = d.responder := rfl
@[simp] theorem Device.setLane_notices (l : Lane) (v : LaneState) : (d.setLane l v).notices = d.notices := rfl

/-! ## setReading -/

@[simp] theorem Device.setReading_receiver (r : Option RangeRead) : (d.setReading r).receiver = d.receiver := rfl
@[simp] theorem Device.setReading_clock (r : Option RangeRead) : (d.setReading r).clock = d.clock := rfl
@[simp] theorem Device.setReading_pens (r : Option RangeRead) : (d.setReading r).pens = d.pens := rfl
@[simp] theorem Device.setReading_contacts (r : Option RangeRead) : (d.setReading r).contacts = d.contacts := rfl
@[simp] theorem Device.setReading_zones (r : Option RangeRead) : (d.setReading r).zones = d.zones := rfl
@[simp] theorem Device.setReading_filters (r : Option RangeRead) : (d.setReading r).filters = d.filters := rfl
@[simp] theorem Device.setReading_strokes (r : Option RangeRead) : (d.setReading r).strokes = d.strokes := rfl
@[simp] theorem Device.setReading_router (r : Option RangeRead) : (d.setReading r).router = d.router := rfl
@[simp] theorem Device.setReading_framer (r : Option RangeRead) : (d.setReading r).framer = d.framer := rfl
@[simp] theorem Device.setReading_arbiter (r : Option RangeRead) : (d.setReading r).arbiter = d.arbiter := rfl
@[simp] theorem Device.setReading_notices (r : Option RangeRead) : (d.setReading r).notices = d.notices := rfl

/-! ## post -/

@[simp] theorem Device.post_receiver (k : NoticeKind) (j : Subject) : (d.post k j).receiver = d.receiver := rfl
@[simp] theorem Device.post_clock (k : NoticeKind) (j : Subject) : (d.post k j).clock = d.clock := rfl
@[simp] theorem Device.post_pens (k : NoticeKind) (j : Subject) : (d.post k j).pens = d.pens := rfl
@[simp] theorem Device.post_contacts (k : NoticeKind) (j : Subject) : (d.post k j).contacts = d.contacts := rfl
@[simp] theorem Device.post_zones (k : NoticeKind) (j : Subject) : (d.post k j).zones = d.zones := rfl
@[simp] theorem Device.post_filters (k : NoticeKind) (j : Subject) : (d.post k j).filters = d.filters := rfl
@[simp] theorem Device.post_strokes (k : NoticeKind) (j : Subject) : (d.post k j).strokes = d.strokes := rfl
@[simp] theorem Device.post_router (k : NoticeKind) (j : Subject) : (d.post k j).router = d.router := rfl
@[simp] theorem Device.post_framer (k : NoticeKind) (j : Subject) : (d.post k j).framer = d.framer := rfl
@[simp] theorem Device.post_arbiter (k : NoticeKind) (j : Subject) : (d.post k j).arbiter = d.arbiter := rfl
@[simp] theorem Device.post_responder (k : NoticeKind) (j : Subject) : (d.post k j).responder = d.responder := rfl

/-! ## reply -/

@[simp] theorem Device.reply_receiver (t : Word16) (c : Byte) (r : Result) (p : List Byte) : (d.reply t c r p).receiver = d.receiver := rfl
@[simp] theorem Device.reply_clock (t : Word16) (c : Byte) (r : Result) (p : List Byte) : (d.reply t c r p).clock = d.clock := rfl
@[simp] theorem Device.reply_pens (t : Word16) (c : Byte) (r : Result) (p : List Byte) : (d.reply t c r p).pens = d.pens := rfl
@[simp] theorem Device.reply_contacts (t : Word16) (c : Byte) (r : Result) (p : List Byte) : (d.reply t c r p).contacts = d.contacts := rfl
@[simp] theorem Device.reply_zones (t : Word16) (c : Byte) (r : Result) (p : List Byte) : (d.reply t c r p).zones = d.zones := rfl
@[simp] theorem Device.reply_filters (t : Word16) (c : Byte) (r : Result) (p : List Byte) : (d.reply t c r p).filters = d.filters := rfl
@[simp] theorem Device.reply_strokes (t : Word16) (c : Byte) (r : Result) (p : List Byte) : (d.reply t c r p).strokes = d.strokes := rfl
@[simp] theorem Device.reply_router (t : Word16) (c : Byte) (r : Result) (p : List Byte) : (d.reply t c r p).router = d.router := rfl
@[simp] theorem Device.reply_framer (t : Word16) (c : Byte) (r : Result) (p : List Byte) : (d.reply t c r p).framer = d.framer := rfl
@[simp] theorem Device.reply_responder (t : Word16) (c : Byte) (r : Result) (p : List Byte) : (d.reply t c r p).responder = d.responder := rfl
@[simp] theorem Device.reply_notices (t : Word16) (c : Byte) (r : Result) (p : List Byte) : (d.reply t c r p).notices = d.notices := rfl

/-! ## answered -/

@[simp] theorem Device.answered_receiver (r : ReplyCell) : (d.answered r).receiver = d.receiver := rfl
@[simp] theorem Device.answered_clock (r : ReplyCell) : (d.answered r).clock = d.clock := rfl
@[simp] theorem Device.answered_pens (r : ReplyCell) : (d.answered r).pens = d.pens := rfl
@[simp] theorem Device.answered_contacts (r : ReplyCell) : (d.answered r).contacts = d.contacts := rfl
@[simp] theorem Device.answered_zones (r : ReplyCell) : (d.answered r).zones = d.zones := rfl
@[simp] theorem Device.answered_filters (r : ReplyCell) : (d.answered r).filters = d.filters := rfl
@[simp] theorem Device.answered_strokes (r : ReplyCell) : (d.answered r).strokes = d.strokes := rfl
@[simp] theorem Device.answered_router (r : ReplyCell) : (d.answered r).router = d.router := rfl
@[simp] theorem Device.answered_framer (r : ReplyCell) : (d.answered r).framer = d.framer := rfl
@[simp] theorem Device.answered_responder (r : ReplyCell) : (d.answered r).responder = d.responder := rfl
@[simp] theorem Device.answered_notices (r : ReplyCell) : (d.answered r).notices = d.notices := rfl

/-! ## bindStroke -/

@[simp] theorem Device.bindStroke_receiver : (d.bindStroke).receiver = d.receiver := rfl
@[simp] theorem Device.bindStroke_clock : (d.bindStroke).clock = d.clock := rfl
@[simp] theorem Device.bindStroke_pens : (d.bindStroke).pens = d.pens := rfl
@[simp] theorem Device.bindStroke_contacts : (d.bindStroke).contacts = d.contacts := rfl
@[simp] theorem Device.bindStroke_filters : (d.bindStroke).filters = d.filters := rfl
@[simp] theorem Device.bindStroke_strokes : (d.bindStroke).strokes = d.strokes := rfl
@[simp] theorem Device.bindStroke_router : (d.bindStroke).router = d.router := rfl
@[simp] theorem Device.bindStroke_framer : (d.bindStroke).framer = d.framer := rfl
@[simp] theorem Device.bindStroke_arbiter : (d.bindStroke).arbiter = d.arbiter := rfl
@[simp] theorem Device.bindStroke_responder : (d.bindStroke).responder = d.responder := rfl
@[simp] theorem Device.bindStroke_notices : (d.bindStroke).notices = d.notices := rfl

/-! ## Reading a slot's records -/

@[simp] theorem Device.setContact_slot (j : Slot) (c : Contact) (i : Slot) : (d.setContact j c).slot i = d.slot i := rfl
@[simp] theorem Device.setContext_slot (j : Slot) (c : StrokeContext) (i : Slot) : (d.setContext j c).slot i = d.slot i := rfl
@[simp] theorem Device.setSummary_slot (j : Slot) (c : Summary) (i : Slot) : (d.setSummary j c).slot i = d.slot i := rfl
@[simp] theorem Device.setFilter_slot (j : Slot) (v : FilterValue) (i : Slot) : (d.setFilter j v).slot i = d.slot i := rfl
@[simp] theorem Device.setLane_slot (l : Lane) (v : LaneState) (i : Slot) : (d.setLane l v).slot i = d.slot i := rfl
@[simp] theorem Device.setReading_slot (r : Option RangeRead) (i : Slot) : (d.setReading r).slot i = d.slot i := rfl
@[simp] theorem Device.post_slot (k : NoticeKind) (j : Subject) (i : Slot) : (d.post k j).slot i = d.slot i := rfl
@[simp] theorem Device.reply_slot (t : Word16) (c : Byte) (r : Result) (p : List Byte) (i : Slot) : (d.reply t c r p).slot i = d.slot i := rfl
@[simp] theorem Device.answered_slot (r : ReplyCell) (i : Slot) : (d.answered r).slot i = d.slot i := rfl
@[simp] theorem Device.bindStroke_slot (i : Slot) : (d.bindStroke).slot i = d.slot i := rfl

@[simp] theorem Device.setSlot_slot_same (i : Slot) (p : PenSlot) : (d.setSlot i p).slot i = p := by simp [Device.setSlot, Device.slot]

theorem Device.setSlot_slot_ne {i j : Slot} (p : PenSlot) (h : j ≠ i) : (d.setSlot i p).slot j = d.slot j := by
  have h' : (i : Nat) ≠ j := fun e => h (Fin.ext e.symm)
  simp [Device.setSlot, Device.slot, h']

@[simp] theorem Device.setSlot_contact (j : Slot) (p : PenSlot) (i : Slot) : (d.setSlot j p).contact i = d.contact i := rfl
@[simp] theorem Device.setContext_contact (j : Slot) (c : StrokeContext) (i : Slot) : (d.setContext j c).contact i = d.contact i := rfl
@[simp] theorem Device.setSummary_contact (j : Slot) (c : Summary) (i : Slot) : (d.setSummary j c).contact i = d.contact i := rfl
@[simp] theorem Device.setFilter_contact (j : Slot) (v : FilterValue) (i : Slot) : (d.setFilter j v).contact i = d.contact i := rfl
@[simp] theorem Device.setLane_contact (l : Lane) (v : LaneState) (i : Slot) : (d.setLane l v).contact i = d.contact i := rfl
@[simp] theorem Device.setReading_contact (r : Option RangeRead) (i : Slot) : (d.setReading r).contact i = d.contact i := rfl
@[simp] theorem Device.post_contact (k : NoticeKind) (j : Subject) (i : Slot) : (d.post k j).contact i = d.contact i := rfl
@[simp] theorem Device.reply_contact (t : Word16) (c : Byte) (r : Result) (p : List Byte) (i : Slot) : (d.reply t c r p).contact i = d.contact i := rfl
@[simp] theorem Device.answered_contact (r : ReplyCell) (i : Slot) : (d.answered r).contact i = d.contact i := rfl
@[simp] theorem Device.bindStroke_contact (i : Slot) : (d.bindStroke).contact i = d.contact i := rfl

@[simp] theorem Device.setContact_contact_same (i : Slot) (p : Contact) : (d.setContact i p).contact i = p := by simp [Device.setContact, Device.contact]

theorem Device.setContact_contact_ne {i j : Slot} (p : Contact) (h : j ≠ i) : (d.setContact i p).contact j = d.contact j := by
  have h' : (i : Nat) ≠ j := fun e => h (Fin.ext e.symm)
  simp [Device.setContact, Device.contact, h']

@[simp] theorem Device.setSlot_context (j : Slot) (p : PenSlot) (i : Slot) : (d.setSlot j p).context i = d.context i := rfl
@[simp] theorem Device.setContact_context (j : Slot) (c : Contact) (i : Slot) : (d.setContact j c).context i = d.context i := rfl
@[simp] theorem Device.setSummary_context (j : Slot) (c : Summary) (i : Slot) : (d.setSummary j c).context i = d.context i := rfl
@[simp] theorem Device.setFilter_context (j : Slot) (v : FilterValue) (i : Slot) : (d.setFilter j v).context i = d.context i := rfl
@[simp] theorem Device.setLane_context (l : Lane) (v : LaneState) (i : Slot) : (d.setLane l v).context i = d.context i := rfl
@[simp] theorem Device.setReading_context (r : Option RangeRead) (i : Slot) : (d.setReading r).context i = d.context i := rfl
@[simp] theorem Device.post_context (k : NoticeKind) (j : Subject) (i : Slot) : (d.post k j).context i = d.context i := rfl
@[simp] theorem Device.reply_context (t : Word16) (c : Byte) (r : Result) (p : List Byte) (i : Slot) : (d.reply t c r p).context i = d.context i := rfl
@[simp] theorem Device.answered_context (r : ReplyCell) (i : Slot) : (d.answered r).context i = d.context i := rfl
@[simp] theorem Device.bindStroke_context (i : Slot) : (d.bindStroke).context i = d.context i := rfl

@[simp] theorem Device.setContext_context_same (i : Slot) (p : StrokeContext) : (d.setContext i p).context i = p := by simp [Device.setContext, Device.context]

theorem Device.setContext_context_ne {i j : Slot} (p : StrokeContext) (h : j ≠ i) : (d.setContext i p).context j = d.context j := by
  have h' : (i : Nat) ≠ j := fun e => h (Fin.ext e.symm)
  simp [Device.setContext, Device.context, h']

@[simp] theorem Device.setSlot_summary (j : Slot) (p : PenSlot) (i : Slot) : (d.setSlot j p).summary i = d.summary i := rfl
@[simp] theorem Device.setContact_summary (j : Slot) (c : Contact) (i : Slot) : (d.setContact j c).summary i = d.summary i := rfl
@[simp] theorem Device.setContext_summary (j : Slot) (c : StrokeContext) (i : Slot) : (d.setContext j c).summary i = d.summary i := rfl
@[simp] theorem Device.setFilter_summary (j : Slot) (v : FilterValue) (i : Slot) : (d.setFilter j v).summary i = d.summary i := rfl
@[simp] theorem Device.setLane_summary (l : Lane) (v : LaneState) (i : Slot) : (d.setLane l v).summary i = d.summary i := rfl
@[simp] theorem Device.setReading_summary (r : Option RangeRead) (i : Slot) : (d.setReading r).summary i = d.summary i := rfl
@[simp] theorem Device.post_summary (k : NoticeKind) (j : Subject) (i : Slot) : (d.post k j).summary i = d.summary i := rfl
@[simp] theorem Device.reply_summary (t : Word16) (c : Byte) (r : Result) (p : List Byte) (i : Slot) : (d.reply t c r p).summary i = d.summary i := rfl
@[simp] theorem Device.answered_summary (r : ReplyCell) (i : Slot) : (d.answered r).summary i = d.summary i := rfl
@[simp] theorem Device.bindStroke_summary (i : Slot) : (d.bindStroke).summary i = d.summary i := rfl

@[simp] theorem Device.setSummary_summary_same (i : Slot) (p : Summary) : (d.setSummary i p).summary i = p := by simp [Device.setSummary, Device.summary]

theorem Device.setSummary_summary_ne {i j : Slot} (p : Summary) (h : j ≠ i) : (d.setSummary i p).summary j = d.summary j := by
  have h' : (i : Nat) ≠ j := fun e => h (Fin.ext e.symm)
  simp [Device.setSummary, Device.summary, h']

@[simp] theorem Device.setSlot_filter (j : Slot) (p : PenSlot) (i : Slot) : (d.setSlot j p).filter i = d.filter i := rfl
@[simp] theorem Device.setContact_filter (j : Slot) (c : Contact) (i : Slot) : (d.setContact j c).filter i = d.filter i := rfl
@[simp] theorem Device.setContext_filter (j : Slot) (c : StrokeContext) (i : Slot) : (d.setContext j c).filter i = d.filter i := rfl
@[simp] theorem Device.setSummary_filter (j : Slot) (c : Summary) (i : Slot) : (d.setSummary j c).filter i = d.filter i := rfl
@[simp] theorem Device.setLane_filter (l : Lane) (v : LaneState) (i : Slot) : (d.setLane l v).filter i = d.filter i := rfl
@[simp] theorem Device.setReading_filter (r : Option RangeRead) (i : Slot) : (d.setReading r).filter i = d.filter i := rfl
@[simp] theorem Device.post_filter (k : NoticeKind) (j : Subject) (i : Slot) : (d.post k j).filter i = d.filter i := rfl
@[simp] theorem Device.reply_filter (t : Word16) (c : Byte) (r : Result) (p : List Byte) (i : Slot) : (d.reply t c r p).filter i = d.filter i := rfl
@[simp] theorem Device.answered_filter (r : ReplyCell) (i : Slot) : (d.answered r).filter i = d.filter i := rfl
@[simp] theorem Device.bindStroke_filter (i : Slot) : (d.bindStroke).filter i = d.filter i := rfl

@[simp] theorem Device.setFilter_filter_same (i : Slot) (p : FilterValue) : (d.setFilter i p).filter i = p := by simp [Device.setFilter, Device.filter]

theorem Device.setFilter_filter_ne {i j : Slot} (p : FilterValue) (h : j ≠ i) : (d.setFilter i p).filter j = d.filter j := by
  have h' : (i : Nat) ≠ j := fun e => h (Fin.ext e.symm)
  simp [Device.setFilter, Device.filter, h']

/-! ## Reading a lane -/

@[simp] theorem Device.setLane_lane_same (l : Lane) (v : LaneState) : (d.setLane l v).lane l = v := by
  simp [Device.setLane, Device.lane]

theorem Device.setLane_lane_ne {l m : Lane} (v : LaneState) (h : m ≠ l) : (d.setLane l v).lane m = d.lane m := by
  have h' : (l : Nat) ≠ m := fun e => h (Fin.ext e.symm)
  simp [Device.setLane, Device.lane, h']

/-! ## Reading and writing a bank -/

@[simp] theorem ZoneTable.bank_setBank_same (z : ZoneTable) (n : BankName) (b : Bank) : (z.setBank n b).bank n = b := by
  cases n <;> rfl

theorem ZoneTable.bank_setBank_ne (z : ZoneTable) {n m : BankName} (b : Bank) (h : m ≠ n) : (z.setBank n b).bank m = z.bank m := by
  cases n <;> cases m <;> first | rfl | exact absurd rfl h

@[simp] theorem ZoneTable.setBank_active (z : ZoneTable) (n : BankName) (b : Bank) : (z.setBank n b).active = z.active := by
  cases n <;> rfl

@[simp] theorem ZoneTable.setBank_generation (z : ZoneTable) (n : BankName) (b : Bank) :
    (z.setBank n b).generation = z.generation := by
  cases n <;> rfl

@[simp] theorem ZoneTable.setBank_apply (z : ZoneTable) (n : BankName) (b : Bank) : (z.setBank n b).apply = z.apply := by
  cases n <;> rfl

@[simp] theorem ZoneTable.setBank_locked (z : ZoneTable) (n : BankName) (b : Bank) : (z.setBank n b).locked = z.locked := by
  cases n <;> rfl

theorem otherBank_ne (n : BankName) : otherBank n ≠ n := by cases n <;> decide

@[simp] theorem otherBank_otherBank (n : BankName) : otherBank (otherBank n) = n := by cases n <;> rfl

/-! ## Outcomes -/

@[simp] theorem State.onDevice_eq (f : Device → Device) (s : State) : s.onDevice f = .next ⟨f s.dev, s.pending⟩ := rfl

end Sys2Proof.Machine
end

