-- ==== Sys2Proof/Laws/Commands.lean ====
section
/-! SUPPORT. The command path and the notice queue, said once: when a command step runs at once, what a reply is, what a post keeps. -/

namespace Sys2Proof.Machine

/-! ## The taking of a command -/

theorem Device.mayTake_iff (d : Device) : d.mayTake = true ↔ d.responder.reading = none ∧ d.arbiter.replies.length < 4 := by
  unfold Device.mayTake Device.replyRoom Config.replyCapacity
  cases d.responder.reading <;> simp

/-- A command step at a ready responder is the command's own execution. -/
theorem Device.commandStep_of_ready {d : Device} (h : d.Ready) (i : Instr) (run : Device → Device) : d.commandStep i run = run d := by
  obtain ⟨h1, h2, h3⟩ := h
  have : d.mayTake = true := d.mayTake_iff.mpr ⟨h1, h3⟩
  simp [Device.commandStep, this, h2]

/-- A command step at a responder that is not ready takes its place at the command queue. -/
theorem Device.commandStep_of_busy {d : Device} (h : ¬d.Ready) {i : Instr} {c : Command} (e : encodeCommand i = some c)
    (run : Device → Device) : d.commandStep i run = d.commandArrives c := by
  have : ¬(d.mayTake && d.responder.queue.isEmpty) = true := by
    intro k
    simp only [Bool.and_eq_true, Device.mayTake_iff, List.isEmpty_iff] at k
    exact h ⟨k.1.1, k.2, k.1.2⟩
  simp [Device.commandStep, this, e]

/-- With no command waiting there is nothing to take. -/
theorem Device.takingTest_of_empty {d : Device} (h : d.responder.queue = []) : d.takingTest = d := by
  simp [Device.takingTest, h, Device.takeCommands]

/-- A responder that may not take a command takes none. -/
theorem Device.takingTest_of_full {d : Device} (h : d.mayTake = false) : d.takingTest = d := by
  unfold Device.takingTest
  generalize d.responder.queue.length = n
  cases n with
  | zero => rfl
  | succ n =>
    unfold Device.takeCommands
    split
    · rfl
    · simp [h]

/-- A command that arrives at a ready responder is executed at once. -/
theorem Device.commandArrives_of_ready {d : Device} (h : d.Ready) (c : Command) :
    d.commandArrives c = runCommand (decodeCommand c) d := by
  obtain ⟨h1, h2, h3⟩ := h
  have h4 : { d with responder := { d.responder with queue := [] } } = d := by rw [← h2]
  have h5 : d.mayTake = true := d.mayTake_iff.mpr ⟨h1, h3⟩
  have h6 : Device.mayTake { d with responder := { d.responder with queue := [c] } } = true := h5
  rw [← h4]
  simp [Device.commandArrives, Device.takingTest, Device.takeCommands, Config.commandCapacity, h6]

/-! ## Replies -/

theorem Device.reply_eq (d : Device) (tag : Word16) (code : Byte) (result : Result) (payload : List Byte) :
    d.reply tag code result payload = d.answered (formReply tag code result d.status payload) := rfl

@[simp] theorem Device.status_answered (d : Device) (r : ReplyCell) : (d.answered r).status = d.status := rfl

@[simp] theorem padPayload_length (l : List Byte) : (padPayload l).length = 25 := by simp [padPayload]

/-! ## Notices -/

@[simp] theorem NoticeQueue.judged_entries (q : NoticeQueue) : q.judged.entries = q.entries := by
  unfold NoticeQueue.judged
  split <;> rfl

@[simp] theorem NoticeQueue.judged_levels (q : NoticeQueue) : q.judged.levels = q.levels := by
  unfold NoticeQueue.judged
  split <;> rfl

@[simp] theorem NoticeQueue.judged_threshold (q : NoticeQueue) : q.judged.threshold = q.threshold := by
  unfold NoticeQueue.judged
  split <;> rfl

@[simp] theorem NoticeQueue.judged_overrun (q : NoticeQueue) : q.judged.overrun = q.overrun := by
  unfold NoticeQueue.judged
  split <;> rfl

@[simp] theorem NoticeQueue.judged_arrivals (q : NoticeQueue) : q.judged.arrivals = q.arrivals := by
  unfold NoticeQueue.judged
  split <;> rfl

/-- A post changes no level and not the threshold. -/
theorem NoticeQueue.post_levels (k : NoticeKind) (j : Subject) (q : NoticeQueue) :
    (q.post k j).levels = q.levels ∧ (q.post k j).threshold = q.threshold := by
  unfold NoticeQueue.post
  split
  · exact ⟨rfl, rfl⟩
  · split
    · exact ⟨rfl, rfl⟩
    · split
      · simp
      · exact ⟨rfl, rfl⟩

/-- The place of a new entry: behind its own level and higher, before lower levels. -/
theorem placeEntry_perm (e : NoticeEntry) (l : List NoticeEntry) : (placeEntry e l).Perm (e :: l) := by
  induction l with
  | nil => exact List.Perm.refl _
  | cons x rest ih =>
    unfold placeEntry
    split
    · exact (ih.cons x).trans (List.Perm.swap e x rest)
    · exact List.Perm.refl _

/-- A counter that has not reached its greatest value goes up by one. -/
theorem satInc_of_ne {w : Nat} {c : BitVec w} (h : c ≠ BitVec.allOnes w) : satInc c = c + 1 := by simp [satInc, h]

@[simp] theorem satInc_allOnes (w : Nat) : satInc (BitVec.allOnes w) = BitVec.allOnes w := by simp [satInc]

end Sys2Proof.Machine
end

