-- ==== Sys2Proof/Laws/Frames.lean ====
section
/-! SUPPORT. What the operations of the contact units, the stroke assembler and the router leave alone. `Within i d e` says that between
`d` and `e` nothing has changed but slot `i`'s own records and what a stroke may move: the queues, the frame buffers, the zone counts, the
notices and the id allocator. -/

namespace Sys2Proof.Machine

/-- All that an operation inside slot `i` leaves alone. -/
def Device.Within (i : Slot) (d e : Device) : Prop := d.OthersKept i e ∧ d.SurroundingsKept e

/-- The frame of an operation of the Share Framer: the share queue and the frame buffers alone have changed, and the share state and the
pacer have not. -/
def Device.Framed (d e : Device) : Prop :=
  e = { d with router := { d.router with shareQueue := e.router.shareQueue }, framer := e.framer } ∧
  e.framer.state = d.framer.state ∧ e.framer.timer = d.framer.timer ∧ e.framer.cycle = d.framer.cycle ∧
  e.framer.written = d.framer.written ∧ e.framer.classroom = d.framer.classroom ∧ e.framer.board = d.framer.board ∧
  e.framer.period = d.framer.period ∧ e.framer.fine = d.framer.fine

namespace Device

theorem Within.refl (i : Slot) (d : Device) : d.Within i d :=
  ⟨fun _ _ => ⟨rfl, rfl, rfl, rfl, rfl⟩, rfl, rfl, rfl, rfl, rfl, rfl, rfl, rfl, rfl, rfl, rfl⟩

theorem Within.trans {i : Slot} {d e f : Device} (h : d.Within i e) (k : e.Within i f) : d.Within i f := by
  obtain ⟨h1, a1, a2, a3, a4, a5, a6, a7, a8, a9, a10, a11⟩ := h
  obtain ⟨k1, b1, b2, b3, b4, b5, b6, b7, b8, b9, b10, b11⟩ := k
  refine ⟨fun j hj => ?_, b1.trans a1, b2.trans a2, b3.trans a3, b4.trans a4, b5.trans a5, b6.trans a6, b7.trans a7, b8.trans a8,
    b9.trans a9, b10.trans a10, b11.trans a11⟩
  obtain ⟨p1, p2, p3, p4, p5⟩ := h1 j hj
  obtain ⟨q1, q2, q3, q4, q5⟩ := k1 j hj
  exact ⟨q1.trans p1, q2.trans p2, q3.trans p3, q4.trans p4, q5.trans p5⟩

/-- Both branches of a choice. -/
theorem Within.ite {i : Slot} {d a b : Device} {c : Prop} [Decidable c] (h : d.Within i a) (k : d.Within i b) :
    d.Within i (if c then a else b) := by
  split
  · exact h
  · exact k

theorem Framed.refl (d : Device) : d.Framed d := ⟨rfl, rfl, rfl, rfl, rfl, rfl, rfl, rfl, rfl⟩

theorem Framed.trans {d e f : Device} (h : d.Framed e) (k : e.Framed f) : d.Framed f := by
  obtain ⟨h1, a⟩ := h
  obtain ⟨k1, b⟩ := k
  refine ⟨?_, b.1.trans a.1, b.2.1.trans a.2.1, b.2.2.1.trans a.2.2.1, b.2.2.2.1.trans a.2.2.2.1,
    b.2.2.2.2.1.trans a.2.2.2.2.1, b.2.2.2.2.2.1.trans a.2.2.2.2.2.1, b.2.2.2.2.2.2.1.trans a.2.2.2.2.2.2.1,
    b.2.2.2.2.2.2.2.trans a.2.2.2.2.2.2.2⟩
  rw [k1, h1]

/-! ## The Share Framer -/

/-- A build changes the share queue and the framer alone. -/
theorem buildFrame_framed (d : Device) : d.Framed d.buildFrame := by
  unfold buildFrame
  split
  · exact Framed.refl d
  · split
    · exact Framed.refl d
    · exact ⟨rfl, rfl, rfl, rfl, rfl, rfl, rfl, rfl, rfl⟩

/-- So does any number of builds. -/
theorem buildWhile_framed (least n : Nat) (d : Device) : d.Framed (buildWhile least n d) := by
  induction n generalizing d with
  | zero => exact Framed.refl d
  | succ n ih =>
    unfold buildWhile
    split
    · exact (buildFrame_framed d).trans (ih _)
    · exact Framed.refl d

/-- So does the six-record trigger. -/
theorem sixRecordTrigger_framed (d : Device) : d.Framed d.sixRecordTrigger := by
  unfold sixRecordTrigger
  split
  · exact buildWhile_framed _ _ _
  · exact Framed.refl d

/-- Fewer than six queued records trigger nothing. -/
theorem sixRecordTrigger_of_short {d : Device} (h : d.router.shareQueue.length < 6) : d.sixRecordTrigger = d := by
  unfold sixRecordTrigger
  split
  · have : ¬6 ≤ d.router.shareQueue.length := by omega
    simp [buildWhile, Config.frameRecords, this]
  · rfl

/-- What framing leaves alone lies within any slot. -/
theorem Framed.within {i : Slot} {d e : Device} (h : d.Framed e) : d.Within i e := by
  obtain ⟨h1, h2, h3, h4, -⟩ := h
  refine ⟨fun j _ => ?_, ?_, ?_, ?_, ?_, ?_, ?_, ?_, ?_, h2, h3, h4⟩ <;> rw [h1]
  exact ⟨rfl, rfl, rfl, rfl, rfl⟩

/-! ## A slot's records -/

theorem setContact_within (i : Slot) (c : Contact) (d : Device) : d.Within i (d.setContact i c) :=
  ⟨fun _ hj => ⟨rfl, setContact_contact_ne d c hj, rfl, rfl, rfl⟩, rfl, rfl, rfl, rfl, rfl, rfl, rfl, rfl, rfl, rfl, rfl⟩

theorem setContext_within (i : Slot) (c : StrokeContext) (d : Device) : d.Within i (d.setContext i c) :=
  ⟨fun _ hj => ⟨rfl, rfl, setContext_context_ne d c hj, rfl, rfl⟩, rfl, rfl, rfl, rfl, rfl, rfl, rfl, rfl, rfl, rfl, rfl⟩

theorem setSummary_within (i : Slot) (c : Summary) (d : Device) : d.Within i (d.setSummary i c) :=
  ⟨fun _ hj => ⟨rfl, rfl, rfl, rfl, setSummary_summary_ne d c hj⟩, rfl, rfl, rfl, rfl, rfl, rfl, rfl, rfl, rfl, rfl, rfl⟩

theorem setFilter_within (i : Slot) (v : FilterValue) (d : Device) : d.Within i (d.setFilter i v) :=
  ⟨fun _ hj => ⟨rfl, rfl, rfl, setFilter_filter_ne d v hj, rfl⟩, rfl, rfl, rfl, rfl, rfl, rfl, rfl, rfl, rfl, rfl, rfl⟩

theorem post_within (i : Slot) (k : NoticeKind) (j : Subject) (d : Device) : d.Within i (d.post k j) :=
  ⟨fun _ _ => ⟨rfl, rfl, rfl, rfl, rfl⟩, rfl, rfl, rfl, rfl, rfl, rfl, rfl, rfl, rfl, rfl, rfl⟩

/-! ## Zones -/

theorem bindStroke_within (i : Slot) (d : Device) : d.Within i d.bindStroke := by
  refine ⟨fun _ _ => ⟨rfl, rfl, rfl, rfl, rfl⟩, rfl, rfl, rfl, rfl, rfl, ?_, ?_, ?_, rfl, rfl, rfl⟩ <;> simp [bindStroke]

/-- A change of the zone table that keeps the exchange and the lock. -/
theorem zones_within (i : Slot) (z : ZoneTable) (d : Device) (h1 : z.active = d.zones.active)
    (h2 : z.generation = d.zones.generation) (h3 : z.locked = d.zones.locked) : d.Within i { d with zones := z } :=
  ⟨fun _ _ => ⟨rfl, rfl, rfl, rfl, rfl⟩, rfl, rfl, rfl, rfl, rfl, h1, h2, h3, rfl, rfl, rfl⟩

theorem releaseStroke_within (i : Slot) (g : Byte) (d : Device) : d.Within i (d.releaseStroke g) := by
  refine Within.ite ((zones_within i _ d ?_ ?_ ?_).trans (post_within i _ _ _)) (zones_within i _ d ?_ ?_ ?_) <;>
    simp [ZoneTable.completeRetiring]

theorem blockSlot_within (i : Slot) (z : ZoneNo) (d : Device) : d.Within i (d.blockSlot i z) := by
  refine Within.ite (((setContact_within i _ d).trans (zones_within i _ _ ?_ ?_ ?_)).trans (post_within i _ _ _))
    (setContact_within i _ d) <;> simp

/-! ## The router -/

/-- A change of the router alone. -/
theorem router_within (i : Slot) (r : Router) (d : Device) : d.Within i { d with router := r } :=
  ⟨fun _ _ => ⟨rfl, rfl, rfl, rfl, rfl⟩, rfl, rfl, rfl, rfl, rfl, rfl, rfl, rfl, rfl, rfl, rfl⟩

theorem routeOpen_within (i : Slot) (o : OpenRecord) (st : Steering) (d : Device) : d.Within i (d.routeOpen o st) := by
  unfold routeOpen
  extract_lets r oa oi sa si orf srf v d1 d2 d3
  have h1 : d.Within i d1 := router_within i _ d
  have h2 : d.Within i d2 := Within.ite (h1.trans (post_within i _ _ _)) h1
  have h3 : d.Within i d3 := Within.ite (h2.trans (post_within i _ _ _)) h2
  exact Within.ite (h3.trans (sixRecordTrigger_framed _).within) h3

theorem offerShareSeg_within (i j : Slot) (s : SegRecord) (d : Device) : d.Within i (d.offerShareSeg j s) :=
  Within.ite ((router_within i _ d).trans (sixRecordTrigger_framed _).within)
    ((router_within i _ d).trans (post_within i _ _ _))

theorem routeSeg_within (i j : Slot) (s : SegRecord) (d : Device) : d.Within i (d.routeSeg j s) := by
  unfold routeSeg
  split
  · exact Within.refl i d
  · extract_lets d1
    have h1 : d.Within i d1 := Within.ite (router_within i _ d) (Within.refl i d)
    exact Within.ite (h1.trans (offerShareSeg_within i j s _)) h1

theorem routeClose_within (i : Slot) (id n : Word16) (reason : CloseReason) (gap : Bool) (time : Word16) (d : Device) :
    d.Within i (d.routeClose id n reason gap time) := by
  unfold routeClose
  extract_lets r
  split
  · exact Within.refl i d
  · exact Within.ite ((router_within i _ d).trans (sixRecordTrigger_framed _).within) (router_within i _ d)

/-! ## Strokes -/

theorem closeStroke_within (i : Slot) (reason : CloseReason) (time : Word32) (d : Device) :
    d.Within i (d.closeStroke i reason time) :=
  Within.ite
    ((((routeClose_within i _ _ _ _ _ d).trans (setSummary_within i _ _)).trans (releaseStroke_within i _ _)).trans
      (setContext_within i _ _))
    (Within.refl i d)

/-- A change of the allocator's candidate. -/
theorem candidate_within (i : Slot) (c : Word16) (d : Device) : d.Within i { d with strokes := { d.strokes with candidate := c } } :=
  ⟨fun _ _ => ⟨rfl, rfl, rfl, rfl, rfl⟩, rfl, rfl, rfl, rfl, rfl, rfl, rfl, rfl, rfl, rfl, rfl⟩

theorem openStroke_within (i : Slot) (q : OpenRequest) (d : Device) : d.Within i (d.openStroke i q) :=
  (((setContext_within i _ d).trans (candidate_within i _ _)).trans (bindStroke_within i _)).trans (routeOpen_within i _ _ _)

theorem emitSeg_within (i : Slot) (p : Point) (w : Byte) (time : Word32) (d : Device) : d.Within i (d.emitSeg i p w time) :=
  (setContext_within i _ d).trans (routeSeg_within i i _ _)

theorem continueStroke_within (i : Slot) (s : Sample) (d : Device) : d.Within i (d.continueStroke i s) :=
  Within.ite ((setFilter_within i _ d).trans (emitSeg_within i _ _ _ _)) (setFilter_within i _ d)

theorem splitAllowed_within (i : Slot) (s : Sample) (z : ZoneNo) (d : Device) : d.Within i (d.splitAllowed i s z) := by
  unfold splitAllowed
  extract_lets d1 p k d2 d3
  have h1 : d.Within i d1 := setFilter_within i _ d
  have h2 : d.Within i d2 := Within.ite h1 (h1.trans (emitSeg_within i _ _ _ _))
  exact (h2.trans (closeStroke_within i _ _ _)).trans (openStroke_within i _ _)

theorem splitRefused_within (i : Slot) (s : Sample) (d : Device) : d.Within i (d.splitRefused i s) :=
  (setFilter_within i _ d).trans (closeStroke_within i _ _ _)

/-! ## The contact unit -/

theorem openFrom_within (i : Slot) (s : Sample) (z : ZoneNo) (d : Device) : d.Within i (d.openFrom i s z) :=
  (openStroke_within i _ d).trans (setContact_within i _ _)

theorem endChange_within (i : Slot) (s : Sample) (d : Device) : d.Within i (d.endChange i s) :=
  have h : d.Within i _ := (closeStroke_within i .endChange s.stamp d).trans (setFilter_within i _ _)
  Within.ite (h.trans (openFrom_within i _ _ _)) (h.trans (blockSlot_within i _ _))

theorem inkSample_within (i : Slot) (s : Sample) (d : Device) : d.Within i (d.inkSample i s) :=
  Within.ite (endChange_within i s d)
    (Within.ite (continueStroke_within i s d)
      (Within.ite (splitAllowed_within i s _ d) ((splitRefused_within i s d).trans (blockSlot_within i _ _))))

theorem lift_within (i : Slot) (s : Sample) (d : Device) : d.Within i (d.lift i s) :=
  Within.ite (((setContact_within i _ d).trans (closeStroke_within i _ _ _)).trans (setContact_within i _ _))
    ((setContact_within i _ d).trans (setContact_within i _ _))

theorem goAway_within (i : Slot) (d : Device) : d.Within i (d.goAway i) := setContact_within i _ d

theorem dropRange_within (i : Slot) (reason : CloseReason) (d : Device) : d.Within i (d.dropRange i reason) := by
  unfold dropRange
  split <;>
    first
    | exact Within.refl i d
    | exact goAway_within i d
    | exact (closeStroke_within i _ _ d).trans (goAway_within i _)

theorem takeLeave_within (i : Slot) (stamp : Word32) (d : Device) : d.Within i (d.takeLeave i stamp) := by
  unfold takeLeave
  split <;>
    first
    | exact Within.refl i d
    | exact goAway_within i d
    | exact (closeStroke_within i _ _ d).trans (goAway_within i _)

theorem retireStroke_within (i : Slot) (d : Device) : d.Within i (d.retireStroke i) := by
  unfold retireStroke
  extract_lets d1
  have h : d.Within i d1 := closeStroke_within i _ _ d
  split
  · exact h.trans (setContact_within i _ _)
  · exact h.trans (setContact_within i _ _)
  · exact h

end Device

end Sys2Proof.Machine
end

