-- ==== Sys2Proof/Laws/Framing.lean ====
section
/-! SUPPORT. What a build, the six-record trigger and the framing of DRAINING do, said once: a build places a frame in the lowest EMPTY buffer,
and the others build the frames of `BuiltFrames`. -/

namespace Sys2Proof.Machine.Device

theorem isFree_iff {b : FrameBuffer} : b.isFree = true ↔ b = .empty := by
  cases b <;> simp [FrameBuffer.isFree]

/-- The check code of a sealed frame is that of its own header and records. -/
theorem sealed_crc (f : Frame) : f.sealed.crc = crc16 f.sealed.body := by
  simp only [Frame.sealed, Frame.body]

/-- A build with a record queued and a buffer free places the frame in that buffer. -/
theorem buildFrame_builtOnly {d : Device} {b : Fin 2} (h : d.framer.freeBuffer = some b) (k : d.router.shareQueue ≠ []) :
    d.BuiltOnly b d.buildFrame := by
  have e : d.router.shareQueue.isEmpty = false := by simpa using k
  unfold buildFrame
  simp only [h, e, Bool.false_eq_true, if_false]
  refine ⟨⟨⟨d.frameOf (d.router.shareQueue.take 6), ?_, rfl, rfl, rfl, rfl, rfl, rfl, sealed_crc _⟩, fun c hc => ?_, rfl, rfl, rfl, rfl, rfl,
    rfl, rfl⟩, rfl, rfl⟩
  · exact Vector.getElem_set_self b.isLt
  · exact Vector.getElem_set_ne b.isLt c.isLt fun q => hc (Fin.ext q.symm)

/-- A step of the builds: enough records queued and a buffer free. -/
theorem buildWhile_step {d : Device} {b : Fin 2} {least : Nat} (n : Nat) (h : d.framer.freeBuffer = some b) (hl : 1 ≤ least)
    (k : least ≤ d.router.shareQueue.length) : buildWhile least (n + 1) d = buildWhile least n d.buildFrame := by
  have e : d.router.shareQueue ≠ [] := fun q => by simp only [q, List.length_nil] at k; omega
  simp [buildWhile, canBuild, h, k, e]

/-- Their end: too few records queued, or no buffer free. -/
theorem buildWhile_stop {d : Device} {least : Nat} (n : Nat)
    (h : d.router.shareQueue.length < least ∨ d.framer.freeBuffer = none) : buildWhile least n d = d := by
  cases n with
  | zero => rfl
  | succ n =>
    refine if_neg fun k => ?_
    obtain ⟨k1, k2⟩ := Bool.and_eq_true_iff.mp k
    rcases h with h | h
    · exact absurd (of_decide_eq_true k1) (by omega)
    · simp [canBuild, h] at k2

/-- The buffer that a build fills is no longer EMPTY, and the other is as it was. -/
theorem BuiltFrame.buffer_ne {b : Fin 2} {d e : Device} (h : d.BuiltFrame b e) : e.framer.buffers[b] ≠ .empty := by
  obtain ⟨⟨f, hf, -⟩, -⟩ := h
  rw [hf]
  exact fun k => nomatch k

/-- Which buffer is taken next: the lowest that is EMPTY (R137). -/
theorem freeBuffer_eq (f : ShareFramer) :
    f.freeBuffer =
      if f.buffers[(0 : Fin 2)] = .empty then some 0 else if f.buffers[(1 : Fin 2)] = .empty then some 1 else none := by
  unfold ShareFramer.freeBuffer
  simp only [isFree_iff]
  rfl

/-- Builds, at most as often as there are buffers, make the frames of `BuiltFrames`. -/
theorem buildWhile_built (d : Device) {least : Nat} (hl : 1 ≤ least) : d.BuiltFrames least (buildWhile least 2 d) := by
  unfold BuiltFrames
  extract_lets free queued
  have hfree := freeBuffer_eq d.framer
  by_cases hq : least ≤ queued
  · have hne : d.router.shareQueue ≠ [] := fun h => by simp only [queued, h, List.length_nil] at hq; omega
    have hlen : ∀ b e, d.BuiltFrame b e → e.router.shareQueue.length = queued - 6 := fun b e h => by
      rw [h.2.2.2.1]
      exact List.length_drop
    by_cases h0 : free 0
    · have hf : d.framer.freeBuffer = some 0 := by rw [hfree]; exact if_pos h0
      have hb := buildFrame_builtOnly hf hne
      have g := freeBuffer_eq d.buildFrame.framer
      rw [if_neg (BuiltFrame.buffer_ne hb.1), hb.1.2.1 1 (by decide)] at g
      rw [if_pos ⟨hq, .inl h0⟩, buildWhile_step 1 hf hl hq]
      by_cases h1 : free 1 ∧ least + 6 ≤ queued
      · rw [if_pos ⟨h0, h1⟩]
        rw [if_pos h1.1] at g
        have hq' : least ≤ d.buildFrame.router.shareQueue.length := by rw [hlen 0 _ hb.1]; omega
        rw [show buildWhile least 1 d.buildFrame = d.buildFrame.buildFrame from buildWhile_step 0 g hl hq']
        exact ⟨_, hb, buildFrame_builtOnly g fun h => by simp only [h, List.length_nil] at hq'; omega⟩
      · rw [if_neg fun h => h1 h.2, if_pos h0, buildWhile_stop]
        · exact hb
        · by_cases h2 : free 1
          · exact .inl (by rw [hlen 0 _ hb.1]; have : ¬least + 6 ≤ queued := fun k => h1 ⟨h2, k⟩; omega)
          · exact .inr (g.trans (if_neg h2))
    · by_cases h1 : free 1
      · have hf : d.framer.freeBuffer = some 1 := by rw [hfree, if_neg h0]; exact if_pos h1
        have hb := buildFrame_builtOnly hf hne
        have g := freeBuffer_eq d.buildFrame.framer
        rw [hb.1.2.1 0 (by decide), if_neg h0, if_neg (BuiltFrame.buffer_ne hb.1)] at g
        rw [if_pos ⟨hq, .inr h1⟩, if_neg fun h => h0 h.1, if_neg h0, buildWhile_step 1 hf hl hq, buildWhile_stop 1 (.inr g)]
        exact hb
      · rw [if_neg fun h => h.2.elim h0 h1]
        exact buildWhile_stop 2 (.inr (by rw [hfree, if_neg h0]; exact if_neg h1))
  · rw [if_neg fun h => hq h.1]
    exact buildWhile_stop 2 (.inl (Nat.lt_of_not_le hq))

/-- The trigger does what `FilledFrames` says, and nothing else. -/
theorem sixRecordTrigger_filled (d : Device) : d.FilledFrames d.sixRecordTrigger := by
  unfold FilledFrames sixRecordTrigger
  by_cases hs : d.framer.state = .enabled
  · rw [if_pos hs, if_pos hs]
    exact buildWhile_built d (by decide)
  · rw [if_neg hs, if_neg hs]

/-- The framing of DRAINING does what `DrainedFrames` says, and nothing else. -/
theorem drain_drained {d : Device} (h : d.framer.state = .draining) : d.DrainedFrames d.drain := by
  have hs : (buildWhile 1 2 d).framer.state = .draining := (buildWhile_framed 1 2 d).2.1.trans h
  refine ⟨_, buildWhile_built d (Nat.le_refl 1), ?_⟩
  unfold drain endDraining ShareFramer.buffersEmpty
  refine ite_congr (propext ?_) (fun _ => rfl) fun _ => rfl
  rw [Bool.and_eq_true_iff, isFree_iff, isFree_iff, List.isEmpty_iff]
  exact ⟨fun k => k.2, fun k => ⟨hs, k⟩⟩

end Sys2Proof.Machine.Device
end

