-- ==== Sys2Proof/Laws/Strokes.lean ====
section
/-! SUPPORT. What the router and the stroke assembler do, said once: the router's operations touch router, framer and notices alone; a
close and an open leave the context, the summary and the contact fields that the rules give. -/

namespace Sys2Proof.Machine

/-- The router, the framer and the notices alone have changed. -/
def Device.Routed (d e : Device) : Prop := e = { d with router := e.router, framer := e.framer, notices := e.notices }

namespace Device

theorem Routed.refl (d : Device) : d.Routed d := rfl

theorem Routed.trans {d e f : Device} (h : d.Routed e) (k : e.Routed f) : d.Routed f := by
  unfold Routed at *
  rw [k, h]

theorem Routed.ite {d a b : Device} {c : Prop} [Decidable c] (h : d.Routed a) (k : d.Routed b) : d.Routed (if c then a else b) := by
  split
  · exact h
  · exact k

theorem Framed.routed {d e : Device} (h : d.Framed e) : d.Routed e := by
  unfold Routed
  rw [h.1]

theorem router_routed (r : Router) (d : Device) : d.Routed { d with router := r } := rfl

theorem post_routed (k : NoticeKind) (j : Subject) (d : Device) : d.Routed (d.post k j) := rfl

theorem routeOpen_routed (o : OpenRecord) (st : Steering) (d : Device) : d.Routed (d.routeOpen o st) := by
  unfold routeOpen
  extract_lets r oa oi sa si orf srf v d1 d2 d3
  have h1 : d.Routed d1 := rfl
  have h2 : d.Routed d2 := Routed.ite (h1.trans (post_routed _ _ _)) h1
  have h3 : d.Routed d3 := Routed.ite (h2.trans (post_routed _ _ _)) h2
  exact Routed.ite (h3.trans (sixRecordTrigger_framed _).routed) h3

theorem offerShareSeg_routed (j : Slot) (s : SegRecord) (d : Device) : d.Routed (d.offerShareSeg j s) :=
  Routed.ite ((router_routed _ d).trans (sixRecordTrigger_framed _).routed) ((router_routed _ d).trans (post_routed _ _ _))

theorem routeSeg_routed (j : Slot) (s : SegRecord) (d : Device) : d.Routed (d.routeSeg j s) := by
  unfold routeSeg
  split
  · exact Routed.refl d
  · extract_lets d1
    have h1 : d.Routed d1 := Routed.ite (router_routed _ d) (Routed.refl d)
    exact Routed.ite (h1.trans (offerShareSeg_routed j s _)) h1

theorem routeClose_routed (id n : Word16) (reason : CloseReason) (gap : Bool) (time : Word16) (d : Device) :
    d.Routed (d.routeClose id n reason gap time) := by
  unfold routeClose
  extract_lets r
  split
  · exact Routed.refl d
  · exact Routed.ite ((router_routed _ d).trans (sixRecordTrigger_framed _).routed) (router_routed _ d)

/-! ## What the router looks at -/

/-- The router and the framer see the same in `d` and in `e`: their own parts, the notices, the session clock and the generation. -/
def Alike (d e : Device) : Prop :=
  d.router = e.router ∧ d.framer = e.framer ∧ d.notices = e.notices ∧ d.clock = e.clock ∧ d.zones.generation = e.zones.generation

theorem Alike.ite {a b a' b' : Device} {c : Prop} [Decidable c] (h : a.Alike a') (k : b.Alike b') :
    (if c then a else b).Alike (if c then a' else b') := by
  split
  · exact h
  · exact k

theorem Alike.post {d e : Device} (h : d.Alike e) (k : NoticeKind) (j : Subject) : (d.post k j).Alike (e.post k j) := by
  obtain ⟨h1, h2, h3, h4, h5⟩ := h
  exact ⟨h1, h2, by simp only [Device.post, h3], h4, h5⟩

theorem Alike.buildFrame {d e : Device} (h : d.Alike e) : d.buildFrame.Alike e.buildFrame := by
  obtain ⟨h1, h2, h3, h4, h5⟩ := h
  unfold Device.buildFrame Device.frameOf
  rw [h1, h2, h4, h5]
  split
  · exact ⟨h1, h2, h3, h4, h5⟩
  · split
    · exact ⟨h1, h2, h3, h4, h5⟩
    · exact ⟨rfl, rfl, h3, rfl, h5⟩

theorem Alike.buildWhile {d e : Device} (h : d.Alike e) (least n : Nat) :
    (Device.buildWhile least n d).Alike (Device.buildWhile least n e) := by
  induction n generalizing d e with
  | zero => exact h
  | succ n ih =>
    unfold Device.buildWhile Device.canBuild
    rw [h.1, h.2.1]
    exact Alike.ite (ih h.buildFrame) h

theorem Alike.sixRecordTrigger {d e : Device} (h : d.Alike e) : d.sixRecordTrigger.Alike e.sixRecordTrigger := by
  unfold Device.sixRecordTrigger
  rw [h.2.1]
  exact Alike.ite (h.buildWhile _ _) h

theorem Alike.routeOpen {d e : Device} (h : d.Alike e) (o : OpenRecord) (st : Steering) : (d.routeOpen o st).Alike (e.routeOpen o st) := by
  unfold Device.routeOpen
  rw [h.1, h.2.1]
  extract_lets r oa oi sa si orf srf v d1 d2 d3 e1 e2 e3
  have h1 : d1.Alike e1 := ⟨rfl, rfl, h.2.2⟩
  have h2 : d2.Alike e2 := Alike.ite (h1.post _ _) h1
  have h3 : d3.Alike e3 := Alike.ite (h2.post _ _) h2
  exact Alike.ite h3.sixRecordTrigger h3

/-- A CLOSE posts nothing. -/
theorem routeClose_notices (id n : Word16) (reason : CloseReason) (gap : Bool) (time : Word16) (d : Device) :
    (d.routeClose id n reason gap time).notices = d.notices := by
  unfold routeClose
  extract_lets r
  split
  · rfl
  · extract_lets o s e
    have k : e.sixRecordTrigger.notices = e.notices := by rw [(sixRecordTrigger_framed e).1]
    exact (apply_ite Device.notices _ _ _).trans ((ite_congr rfl (fun _ => k) fun _ => rfl).trans (ite_self _))

/-! ## Coalescing -/

/-- A queue without a record of the id has nothing to merge into. -/
theorem coalesceNewest_of_absent {s : SegRecord} {q : List InkRecord} (h : ∀ x ∈ q, x.id ≠ s.id) : coalesceNewest s q = none := by
  cases q with
  | nil => rfl
  | cons x rest =>
    have hr : (rest.any fun r => decide (r.id = s.id)) = false :=
      List.any_eq_false.mpr fun y hy => by simpa using h y (List.mem_cons_of_mem _ hy)
    have hx := h x List.mem_cons_self
    unfold coalesceNewest
    simp only [hr, Bool.false_eq_true, if_false]
    cases x with
    | openRec r => rfl
    | segRec r => exact if_neg hx
    | closeRec r => rfl

/-- The newest record of the id decides: a SEG takes the refused SEG up, another record does not. -/
theorem coalesceNewest_append {s : SegRecord} (a : List InkRecord) {x : InkRecord} {b : List InkRecord} (hx : x.id = s.id)
    (hb : ∀ y ∈ b, y.id ≠ s.id) :
    coalesceNewest s (a ++ x :: b) =
      match x with
      | .segRec t => some (a ++ .segRec { t with toX := s.toX, toY := s.toY, width := s.width, time := s.time } :: b)
      | _ => none := by
  induction a with
  | nil =>
    have hr : (b.any fun r => decide (r.id = s.id)) = false := List.any_eq_false.mpr fun y hy => by simpa using hb y hy
    simp only [List.nil_append]
    unfold coalesceNewest
    simp only [hr, Bool.false_eq_true, if_false]
    cases x with
    | openRec r => rfl
    | segRec r => exact if_pos hx
    | closeRec r => rfl
  | cons y a ih =>
    have hr : ((a ++ x :: b).any fun r => decide (r.id = s.id)) = true := by simp [hx]
    simp only [List.cons_append]
    unfold coalesceNewest
    simp only [hr, if_true, ih]
    cases x <;> rfl

/-- A release changes the zone table and the notices alone. -/
theorem releaseStroke_rest (g : Byte) (d : Device) :
    d.releaseStroke g = { d with zones := (d.releaseStroke g).zones, notices := (d.releaseStroke g).notices } := by
  unfold releaseStroke
  extract_lets n b z
  split <;> rfl

/-! ## Closes -/

/-- A slot without an open stroke has nothing to close. -/
theorem closeStroke_of_closed {i : Slot} {d : Device} (h : (d.context i).isOpen = false) (reason : CloseReason) (time : Word32) :
    d.closeStroke i reason time = d := by
  simp [closeStroke, h]

/-- A close leaves the context closed. -/
theorem closeStroke_context_same {i : Slot} {d : Device} (h : (d.context i).isOpen = true) (reason : CloseReason) (time : Word32) :
    (d.closeStroke i reason time).context i = StrokeContext.closed := by
  simp [closeStroke, h]

/-- A close leaves its stroke's summary. -/
theorem closeStroke_summary_same {i : Slot} {d : Device} (h : (d.context i).isOpen = true) (reason : CloseReason) (time : Word32) :
    (d.closeStroke i reason time).summary i = summaryOf (d.context i) reason time (d.router.delivery (d.context i).id) := by
  simp only [closeStroke, h, if_true, setContext_summary]
  rw [releaseStroke_rest]
  exact setSummary_summary_same _ i _

/-- A close moves no contact field, no filter value, no pen, and not the allocator. -/
theorem closeStroke_rest (i : Slot) (reason : CloseReason) (time : Word32) (d : Device) :
    (d.closeStroke i reason time).contacts = d.contacts ∧ (d.closeStroke i reason time).filters = d.filters ∧
      (d.closeStroke i reason time).pens = d.pens ∧
      (d.closeStroke i reason time).strokes.candidate = d.strokes.candidate := by
  unfold closeStroke
  extract_lets k v d1 d2 d3
  split
  · have h1 : d.Routed d1 := routeClose_routed _ _ _ _ _ d
    have h3 := releaseStroke_rest k.generation d2
    simp only [setContext_contacts, setContext_filters, setContext_pens]
    refine ⟨?_, ?_, ?_, ?_⟩
    · show d3.contacts = _
      rw [show d3 = _ from h3]; show d1.contacts = _; rw [h1]
    · show d3.filters = _
      rw [show d3 = _ from h3]; show d1.filters = _; rw [h1]
    · show d3.pens = _
      rw [show d3 = _ from h3]; show d1.pens = _; rw [h1]
    · show d3.strokes.candidate = _
      rw [show d3 = _ from h3]; show d1.strokes.candidate = _; rw [h1]
  · exact ⟨rfl, rfl, rfl, rfl⟩

/-- The end of a retiring takes nothing over from the bank that retires. -/
theorem completeRetiring_setBank_other (z : ZoneTable) (b : Bank) :
    (z.setBank z.other b).completeRetiring = { z.setBank z.other z.stagingCopy with apply := .idle } := by
  obtain ⟨_, _, n, _, _, _⟩ := z
  cases n <;> rfl

/-- A release lowers the count of the stroke's bank, and completes the retiring that it ends. -/
theorem releaseStroke_zones (g : Byte) (d : Device) :
    let z := d.zones
    let n := z.bankOfGeneration g
    let left := (z.bank n).bindings - 1
    if z.apply = .retiring ∧ n = z.other ∧ left = 0 then
      (d.releaseStroke g).zones = { z.setBank z.other z.stagingCopy with apply := .idle } ∧
        (d.releaseStroke g).notices = d.notices.post .applyDone none
    else
      (d.releaseStroke g).zones = z.setBank n { z.bank n with bindings := left } ∧ (d.releaseStroke g).notices = d.notices := by
  extract_lets z n left
  have k : (z.setBank n { z.bank n with bindings := left }).apply = z.apply ∧
      (z.setBank n { z.bank n with bindings := left }).other = z.other ∧
      ((z.setBank n { z.bank n with bindings := left }).bank n).bindings = left := by simp [ZoneTable.other]
  unfold releaseStroke
  extract_lets n' b z'
  rw [show z' = z.setBank n { z.bank n with bindings := left } from rfl, k.1, k.2.1, show n' = n from rfl, k.2.2]
  by_cases h : z.apply = .retiring ∧ n = z.other ∧ left = 0
  · rw [if_pos h, if_pos h]
    obtain ⟨-, hn, -⟩ := h
    refine ⟨?_, rfl⟩
    show ZoneTable.completeRetiring _ = _
    rw [hn]
    exact completeRetiring_setBank_other z _
  · rw [if_neg h, if_neg h]
    exact ⟨rfl, rfl⟩

/-- A close does what `StrokeClosed` says: the CLOSE routed, the summary, the release, the context. -/
theorem closeStroke_closed {i : Slot} {d : Device} (h : (d.context i).isOpen = true) (reason : CloseReason) (time : Word32) :
    d.StrokeClosed i reason time (d.closeStroke i reason time) := by
  refine ⟨closeStroke_context_same h reason time, closeStroke_summary_same h reason time, ?_⟩
  have hn := routeClose_notices (d.context i).id (d.context i).count reason (d.context i).laneGap (time.setWidth 16) d
  unfold closeStroke
  extract_lets k v d1 d2 d3
  rw [if_pos h]
  have h1 : d.Routed d1 := routeClose_routed _ _ _ _ _ d
  have h3 : d3 = { d2 with zones := d3.zones, notices := d3.notices } := releaseStroke_rest k.generation d2
  have hr : d3.router = d1.router ∧ d3.framer = d1.framer := ⟨by rw [h3]; rfl, by rw [h3]; rfl⟩
  have h2 : d2.zones = d.zones := by
    show d1.zones = _
    rw [h1]
  have hz := releaseStroke_zones k.generation d2
  simp only [h2, show d2.notices = d.notices from hn] at hz
  exact ⟨hr.1, hr.2, hz⟩

/-! ## Opens -/

/-- What stands when an open hands its record to the router: the context entered, the allocator moved on, the binding counted. -/
def beforeRouting (i : Slot) (q : OpenRequest) (d : Device) : Device :=
  let k := d.openedContext i q
  let e := d.setContext i k
  Device.bindStroke { e with strokes := { e.strokes with candidate := nextId k.id } }

/-- An open gives the slot the context of R85. -/
theorem openStroke_context_same (i : Slot) (q : OpenRequest) (d : Device) :
    (d.openStroke i q).context i = d.openedContext i q := by
  have h := routeOpen_routed (openRecordOf i (d.openedContext i q)) (d.openedContext i q).steering (d.beforeRouting i q)
  show (Device.routeOpen _ _ (d.beforeRouting i q)).context i = _
  rw [h]
  exact setContext_context_same d i _

/-- An open moves no contact field, no filter value, no summary and no pen, and sets the allocator behind the new id. -/
theorem openStroke_rest (i : Slot) (q : OpenRequest) (d : Device) :
    (d.openStroke i q).contacts = d.contacts ∧ (d.openStroke i q).filters = d.filters ∧ (d.openStroke i q).pens = d.pens ∧
      (d.openStroke i q).strokes.summaries = d.strokes.summaries ∧
      (d.openStroke i q).strokes.candidate = nextId d.newId ∧
      (d.openStroke i q).zones = d.bindStroke.zones := by
  have h : (d.beforeRouting i q).Routed (d.openStroke i q) :=
    routeOpen_routed (openRecordOf i (d.openedContext i q)) (d.openedContext i q).steering (d.beforeRouting i q)
  refine ⟨?_, ?_, ?_, ?_, ?_, ?_⟩ <;> rw [h] <;> rfl

/-- An open whose slot's filter stands at `u` does what `StrokeOpened` says: the context, the id, the binding, the OPEN routed. -/
theorem openStroke_opened {i : Slot} {d : Device} {s : Sample} {u : Point} (h : d.unitPoint i = u) (w : PenEnd) (z : ZoneNo) (c : Bool) :
    d.StrokeOpened i w z u s c (d.openStroke i ⟨z, w, s.fields.pressure, s.stamp, c⟩) := by
  have hc := openStroke_context_same i ⟨z, w, s.fields.pressure, s.stamp, c⟩ d
  have hr := openStroke_rest i ⟨z, w, s.fields.pressure, s.stamp, c⟩ d
  have ha : d.Alike (d.beforeRouting i ⟨z, w, s.fields.pressure, s.stamp, c⟩) :=
    ⟨rfl, rfl, rfl, rfl, by simp [beforeRouting, bindStroke]⟩
  subst h
  have hm := ha.routeOpen (openRecordOf i (d.openedContext i ⟨z, w, s.fields.pressure, s.stamp, c⟩))
    (d.openedContext i ⟨z, w, s.fields.pressure, s.stamp, c⟩).steering
  obtain ⟨m1, m2, m3, -⟩ := hm
  cases w <;> exact ⟨hc, hr.2.2.2.2.1, hr.2.2.2.2.2, m1.symm, m2.symm, m3.symm⟩

end Device

end Sys2Proof.Machine
end

