-- ==== Sys2Proof/Laws/Segs.lean ====
section
/-! SUPPORT. What becomes of a SEG, said once: the router offers it to both outputs as `SegOffered` says. -/

namespace Sys2Proof.Machine.Device

/-- The overlay side of a SEG leaves the share side of the router as it was. -/
theorem offerOverlaySeg_rest (g : SegRecord) (r : Router) :
    (r.offerOverlaySeg g).shareQueue = r.shareQueue ∧ (r.offerOverlaySeg g).shareReservations = r.shareReservations ∧
      (r.offerOverlaySeg g).truncatedStrokes = r.truncatedStrokes := by
  have k (f : Delivery → Delivery) (hf : ∀ v, (f v).shareReserved = v.shareReserved) (l : List Delivery) :
      (l.map fun v => if v.id = g.id then f v else v).countP (·.shareReserved) = l.countP (·.shareReserved) := by
    rw [List.countP_map]
    refine List.countP_congr fun v _ => ?_
    simp only [Function.comp]
    split <;> simp [hf]
  unfold Router.offerOverlaySeg
  split
  · exact ⟨rfl, rfl, rfl⟩
  · split
    · exact ⟨rfl, k (fun v => { v with coalesced := true }) (fun _ => rfl) _, rfl⟩
    · exact ⟨rfl, k (fun v => { v with overlayGap := true }) (fun _ => rfl) _, rfl⟩

/-- The share side of a SEG: it enters and the six-record trigger acts, or it cuts its stroke short. -/
theorem offerShareSeg_cases (i : Slot) (g : SegRecord) (d : Device) :
    let e := d.offerShareSeg i g
    (d.router.shareAdmits 1 = true →
      Device.FilledFrames
          { d with router := { d.router with shareQueue := d.router.shareQueue ++ [.segRec (shareForm g)] } }
          { d with router := e.router, framer := e.framer } ∧
        e.router.overlayQueue = d.router.overlayQueue ∧ e.notices = d.notices) ∧
    (d.router.shareAdmits 1 = false →
      let counted : Router := { d.router with truncatedStrokes := satInc d.router.truncatedStrokes }
      let cut := counted.mapDelivery g.id fun v => { v with shareTruncated := true }
      e = Device.post .shareOverflow (slotSubject i) { d with router := cut }) := by
  unfold offerShareSeg
  extract_lets r counted cut e
  refine ⟨fun h => ?_, fun h => if_neg (by simp [r, h])⟩
  have he : e = sixRecordTrigger { d with router := { r with shareQueue := r.shareQueue ++ [.segRec (shareForm g)] } } := if_pos h
  have hf := (sixRecordTrigger_framed { d with router := { r with shareQueue := r.shareQueue ++ [.segRec (shareForm g)] } }).1
  rw [← he] at hf
  refine ⟨?_, by rw [hf], by rw [hf]⟩
  have hd : ({ d with router := e.router, framer := e.framer } : Device) = e := by rw [hf]
  rw [hd, he]
  exact sixRecordTrigger_filled _

/-- The router offers a SEG to both outputs. -/
theorem routeSeg_offered (i : Slot) (g : SegRecord) (d : Device) : d.SegOffered i g (d.routeSeg i g) := by
  obtain ⟨q1, q2, q3⟩ := offerOverlaySeg_rest g d.router
  have hin : d.router.overlayQueue.length + d.router.overlayReservations + 1 ≤ 48 →
      (d.router.offerOverlaySeg g).overlayQueue = d.router.overlayQueue ++ [.segRec g] := fun h =>
    congrArg Router.overlayQueue (if_pos (decide_eq_true h) : d.router.offerOverlaySeg g = _)
  unfold SegOffered
  extract_lets ol so room r
  have hs : d.routeSeg i g = if so then Device.offerShareSeg i g { d with router := r } else { d with router := r } := by
    unfold routeSeg
    cases hk : d.router.delivery g.id with
    | none => simp [r, so, ol, hk]
    | some v => cases hv : v.overlayLive <;> simp [r, so, ol, hk, hv]
  have hr : r.shareQueue = d.router.shareQueue ∧ r.shareReservations = d.router.shareReservations ∧
      r.truncatedStrokes = d.router.truncatedStrokes := by
    by_cases h : ol = true
    · rw [show r = _ from if_pos h]; exact ⟨q1, q2, q3⟩
    · rw [show r = _ from if_neg h]; exact ⟨rfl, rfl, rfl⟩
  have hq : ol = true → d.router.overlayQueue.length + d.router.overlayReservations + 1 ≤ 48 →
      r.overlayQueue = d.router.overlayQueue ++ [.segRec g] := fun h k => by
    rw [show r = _ from if_pos h]; exact hin k
  have hroom : r.shareAdmits 1 = decide room := by
    unfold Router.shareAdmits
    rw [hr.1, hr.2.1]
    rfl
  by_cases h : so = true
  · rw [if_pos h] at hs
    obtain ⟨c1, c2⟩ := offerShareSeg_cases i g { d with router := r }
    rw [← hs] at c1 c2
    by_cases k : room
    · obtain ⟨f1, f2, f3⟩ := c1 (hroom.trans (decide_eq_true k))
      rw [f2]
      rw [hr.1] at f1
      exact ⟨hq, rfl, fun n => absurd (h.symm.trans n) (by decide), fun _ _ => ⟨f1, f3⟩, fun _ n => absurd k n⟩
    · have f := c2 (hroom.trans (decide_eq_false k))
      rw [f, hr.2.2]
      exact ⟨hq, rfl, fun n => absurd (h.symm.trans n) (by decide), fun _ n => absurd n k, fun _ _ => ⟨rfl, rfl, rfl⟩⟩
  · rw [if_neg h] at hs
    rw [hs]
    exact ⟨hq, rfl, fun _ => ⟨rfl, rfl, rfl⟩, fun k => absurd k h, fun k => absurd k h⟩

theorem Alike.routeSeg {d e : Device} (h : d.Alike e) (i : Slot) (g : SegRecord) : (d.routeSeg i g).Alike (e.routeSeg i g) := by
  have share : ∀ {a b : Device}, a.Alike b → (a.offerShareSeg i g).Alike (b.offerShareSeg i g) := fun {a b} k => by
    unfold Device.offerShareSeg
    rw [k.1]
    extract_lets r counted cut
    exact Alike.ite (Alike.sixRecordTrigger ⟨rfl, k.2⟩)
      (Alike.post (d := { a with router := cut }) (e := { b with router := cut }) ⟨rfl, k.2⟩ _ _)
  unfold Device.routeSeg
  rw [h.1]
  split
  · exact h
  · have h1 := Alike.ite (c := ‹Delivery›.overlayLive = true)
      (show Device.Alike { d with router := e.router.offerOverlaySeg g } { e with router := e.router.offerOverlaySeg g } from ⟨rfl, h.2⟩) h
    exact Alike.ite (share h1) h1

/-- A SEG emitted by a stroke moves its context on, and is offered to both outputs. -/
theorem emitSeg_offered (i : Slot) (p : Point) (width : Byte) (stamp : Word32) (d : Device) :
    let k := d.context i
    let e := d.emitSeg i p width stamp
    e.context i =
        { k with sequence := k.sequence + 1, count := satInc k.count, lastX := p.x, lastY := p.y, lastWidth := width } ∧
      d.SegOffered i ⟨k.id, k.sequence + 1, k.lastX, k.lastY, p.x, p.y, width, stamp.setWidth 16⟩ e := by
  extract_lets k e
  let g : SegRecord := ⟨k.id, k.sequence + 1, k.lastX, k.lastY, p.x, p.y, width, stamp.setWidth 16⟩
  let m := d.setContext i
    { k with sequence := k.sequence + 1, count := satInc k.count, lastX := p.x, lastY := p.y, lastWidth := width }
  have hr : m.Routed e := routeSeg_routed i g m
  obtain ⟨a1, a2, a3, -⟩ := Alike.routeSeg (show d.Alike m from ⟨rfl, rfl, rfl, rfl, rfl⟩) i g
  refine ⟨by rw [hr]; exact setContext_context_same d i _, ?_⟩
  have ho := routeSeg_offered i g d
  unfold SegOffered at ho ⊢
  rw [a1, a2, a3] at ho
  exact ho

end Sys2Proof.Machine.Device
end

