-- ==== Sys2Proof/Laws/Taking.lean ====
section
/-! SUPPORT. What executions do to the command queue, and the taking test, said once: an execution leaves the waiting commands as they are,
but for RESTART, which discards them; and the taking test takes the oldest command and goes on. -/

namespace Sys2Proof.Machine

/-- Between `d` and `e` the waiting commands are the same. -/
def Device.WaitingKept (d e : Device) : Prop := e.responder.queue = d.responder.queue

namespace Device

theorem Within.waiting {i : Slot} {d e : Device} (h : d.Within i e) : d.WaitingKept e := congrArg Responder.queue h.2.2.2.1

theorem Framed.waiting {d e : Device} (h : d.Framed e) : d.WaitingKept e := Within.waiting (i := 0) h.within

theorem WaitingKept.trans {d e f : Device} (h : d.WaitingKept e) (k : e.WaitingKept f) : d.WaitingKept f := Eq.trans k h

/-- Both branches of a choice. -/
theorem WaitingKept.ite {d a b : Device} {c : Prop} [Decidable c] (h : d.WaitingKept a) (k : d.WaitingKept b) :
    d.WaitingKept (if c then a else b) := by
  split
  · exact h
  · exact k

/-- A reply, and what stands before it. -/
theorem WaitingKept.reply {d e : Device} (h : d.WaitingKept e) (tag : Word16) (code : Byte) (r : Result) (p : List Byte) :
    d.WaitingKept (e.reply tag code r p) := h

theorem WaitingKept.fold {α : Type} (f : Device → α → Device) (h : ∀ e a, WaitingKept e (f e a)) (l : List α) (d : Device) :
    d.WaitingKept (l.foldl f d) := by
  induction l generalizing d with
  | nil => rfl
  | cons a l ih => exact (h d a).trans (ih _)

/-! ## Range reads -/

theorem readItem_waiting (r : RangeRead) (d : Device) : d.WaitingKept (d.readItem r) := by
  unfold readItem clearRead clearItem
  split
  · rfl
  · split
    · split <;> rfl
    · rfl

theorem startRead_waiting (r : RangeRead) (d : Device) : d.WaitingKept (d.startRead r) := by
  have burst : ∀ n e, WaitingKept e (readBurst n e) := fun n => by
    induction n with
    | zero => exact fun _ => rfl
    | succ n ih =>
      intro e
      unfold readBurst
      split
      · rfl
      · exact WaitingKept.ite ((readItem_waiting _ _).trans (ih _)) rfl
  exact burst _ (d.setReading (some r))

theorem tableRead_waiting (tag : Word16) (t : ReadTarget) (a b : Byte) (n : Nat) (d : Device) :
    d.WaitingKept (d.tableRead tag t a b n) := WaitingKept.ite (startRead_waiting _ _) rfl

/-! ## Effects -/

theorem forceFree_waiting (i : Slot) (d : Device) : d.WaitingKept (d.forceFree i) :=
  (closeStroke_within i .forced d.clock d).waiting

theorem onBound_waiting (tag : Word16) (code : Byte) (slot : BitVec 4) {f : Slot → Device → Device}
    (h : ∀ i e, WaitingKept e (f i e)) (d : Device) : d.WaitingKept (d.onBound tag code slot f) := by
  unfold onBound
  split
  · rfl
  · exact WaitingKept.ite rfl ((h _ d).reply _ _ _ _)

theorem shareOffClose_waiting (d : Device) (i : Slot) : d.WaitingKept (d.shareOffClose i) := by
  unfold shareOffClose
  extract_lets k
  split
  · rfl
  · exact WaitingKept.ite rfl rfl

theorem drain_waiting (d : Device) : d.WaitingKept d.drain :=
  (buildWhile_framed 1 2 d).waiting.trans (WaitingKept.ite rfl rfl)

theorem flushTrigger_waiting (d : Device) : d.WaitingKept d.flushTrigger :=
  WaitingKept.ite rfl (WaitingKept.ite (buildFrame_framed d).waiting rfl)

theorem disableSlot_waiting (i : Slot) (d : Device) : d.WaitingKept (d.disableSlot i) := by
  have h : d.WaitingKept (if (d.slot i).binding = .bound then d.forceFree i else d) := WaitingKept.ite (forceFree_waiting i d) rfl
  exact h

theorem cancelCaptureAt_waiting (i : Slot) (d : Device) : d.WaitingKept (d.cancelCaptureAt i) := by
  unfold cancelCaptureAt
  extract_lets e
  exact WaitingKept.ite (WaitingKept.ite rfl rfl) rfl

theorem shareOff_waiting (d : Device) : d.WaitingKept d.shareOff := WaitingKept.fold shareOffClose shareOffClose_waiting allSlots d

theorem disableShare_waiting (d : Device) : d.WaitingKept d.disableShare := by
  have k : ∀ e : Device, d.WaitingKept e → d.WaitingKept (drain (shareOff e)) := fun e h =>
    WaitingKept.trans h (WaitingKept.trans (shareOff_waiting e) (drain_waiting (shareOff e)))
  exact k { d with framer := ShareFramer.stopPacer { d.framer with state := .draining, pendingFlush := false } } rfl

theorem writeStaging_waiting (tag : Word16) (code : Byte) (f : Bank → Bank) (d : Device) :
    d.WaitingKept (d.writeStaging tag code f) := by
  unfold writeStaging
  repeat' split
  all_goals rfl

end Device

theorem runRetireNow_waiting (t : Word16) (d : Device) : d.WaitingKept (runRetireNow t d) :=
  Device.WaitingKept.ite rfl (Device.WaitingKept.ite rfl (Device.WaitingKept.reply
    (Device.WaitingKept.fold Device.retireStroke (fun e i => (Device.retireStroke_within i e).waiting) _ d) _ _ _ _))

theorem runSetSlotEnable_waiting (t : Word16) (i : BitVec 4) (on : Bool) (d : Device) : d.WaitingKept (runSetSlotEnable t i on d) := by
  unfold runSetSlotEnable
  split
  · rfl
  · cases on
    · exact Device.disableSlot_waiting _ d
    · rfl

theorem runShareDisable_waiting (t : Word16) (d : Device) : d.WaitingKept (runShareDisable t d) := by
  unfold runShareDisable
  split
  · exact Device.WaitingKept.reply (Device.disableShare_waiting d) _ _ _ _
  · rfl

theorem runFlush_waiting (t : Word16) (d : Device) : d.WaitingKept (runFlush t d) := by
  unfold runFlush
  split
  · exact Device.flushTrigger_waiting d
  · rfl

theorem runAck_waiting (t : Word16) (k : BitVec 4) (j : BitVec 5) (d : Device) : d.WaitingKept (runAck t k j d) := by
  unfold runAck
  split
  · split <;> rfl
  · rfl

theorem runShareEnable_waiting (t : Word16) (d : Device) : d.WaitingKept (runShareEnable t d) := by
  unfold runShareEnable
  split
  · rfl
  · rfl
  · exact Device.WaitingKept.ite rfl rfl

/-- An execution leaves the waiting commands as they are, RESTART apart. -/
theorem runCommand_waiting {i : Instr} (h : ∀ t, i ≠ .restart t) (d : Device) : d.WaitingKept (runCommand i d) := by
  cases i with
  | restart t => exact absurd rfl (h t)
  | readCounters t g c => exact Device.WaitingKept.ite rfl (Device.startRead_waiting _ d)
  | readAdmission t a b => exact Device.tableRead_waiting _ _ _ _ _ d
  | readProfile t a b => exact Device.tableRead_waiting _ _ _ _ _ d
  | readCurve t a b => exact Device.tableRead_waiting _ _ _ _ _ d
  | readSlot t a b p => exact Device.WaitingKept.ite rfl (Device.tableRead_waiting _ _ _ _ _ d)
  | readStroke t a b p => exact Device.WaitingKept.ite rfl (Device.tableRead_waiting _ _ _ _ _ d)
  | readZone t s a b => exact Device.WaitingKept.ite rfl (Device.WaitingKept.ite rfl (Device.startRead_waiting _ d))
  | unbind t i => exact Device.onBound_waiting t 0x2A i Device.forceFree_waiting d
  | forceLeave t i => exact Device.onBound_waiting t 0x2B i (fun i e => (Device.dropRange_within i .forced e).waiting) d
  | captureOffset t i x y =>
    exact Device.onBound_waiting t 0x2C i
      (f := fun i d => d.setSlot i { d.slot i with targetX := x, targetY := y, captureArmed := true }) (fun _ _ => rfl) d
  | cancelCapture t i => exact Device.onBound_waiting t 0x2D i Device.cancelCaptureAt_waiting d
  | setSlotEnable t i e => exact runSetSlotEnable_waiting t i e d
  | retireNow t => exact runRetireNow_waiting t d
  | shareDisable t => exact runShareDisable_waiting t d
  | shareEnable t => exact runShareEnable_waiting t d
  | flush t => exact runFlush_waiting t d
  | ack t k j => exact runAck_waiting t k j d
  | apply t => exact Device.WaitingKept.ite rfl (Device.WaitingKept.ite rfl rfl)
  | writeIdentity t c b => exact Device.WaitingKept.ite rfl rfl
  | setLineThreshold t l => exact Device.WaitingKept.ite rfl rfl
  | writeOpenArea t r => exact Device.writeStaging_waiting _ _ _ d
  | writeAdmission t i e m k a p =>
    show d.WaitingKept (runWriteAdmission t i e m k a p d)
    unfold runWriteAdmission
    split <;> rfl
  | writeSlotParameters t i p a =>
    show d.WaitingKept (runWriteSlotParameters t i p a d)
    unfold runWriteSlotParameters
    split <;> rfl
  | setOffset t i x y =>
    show d.WaitingKept (runSetOffset t i x y d)
    unfold runSetOffset
    split <;> rfl
  | setLevel t k l =>
    show d.WaitingKept (runSetLevel t k l d)
    unfold runSetLevel
    split <;> rfl
  | writeZoneRect t z a b c e =>
    show d.WaitingKept (runWriteZoneRect t z a b c e d)
    unfold runWriteZoneRect
    split
    · rfl
    · exact Device.writeStaging_waiting _ _ _ d
  | writeZoneAttributes t z e r =>
    show d.WaitingKept (runWriteZoneAttributes t z e r d)
    unfold runWriteZoneAttributes
    split
    · rfl
    · exact Device.writeStaging_waiting _ _ _ d
  | _ => rfl

/-- RESTART leaves no command waiting. -/
theorem runRestart_waiting (t : Word16) (d : Device) : (runRestart t d).responder.queue = [] := rfl

/-- The taking test takes the oldest waiting command, where it may, and is then made again. -/
theorem Device.takingTest_takes (d : Device) : d.TakesOldest d.takingTest := by
  refine ⟨fun h => ?_, fun c waiting hq hr hl => ?_⟩
  · rcases h with h | h | h
    · exact takingTest_of_empty h
    · exact takingTest_of_full (Bool.eq_false_iff.mpr fun k => h (d.mayTake_iff.mp k).1)
    · exact takingTest_of_full (Bool.eq_false_iff.mpr fun k => Nat.not_lt.mpr h (d.mayTake_iff.mp k).2)
  · have hm : d.mayTake = true := d.mayTake_iff.mpr ⟨hr, hl⟩
    have hs : d.takingTest =
        takeCommands waiting.length
          (runCommand (decodeCommand c) { d with responder := { d.responder with queue := waiting } }) := by
      unfold takingTest
      rw [hq]
      simp only [List.length_cons, takeCommands, hq, hm, if_true]
    rw [hs]
    by_cases hi : ∃ t, decodeCommand c = .restart t
    · obtain ⟨t, ht⟩ := hi
      rw [ht]
      have he : (runCommand (.restart t) { d with responder := { d.responder with queue := waiting } }).responder.queue = [] :=
        runRestart_waiting t _
      rw [takingTest_of_empty he]
      cases waiting with
      | nil => rfl
      | cons w l =>
        unfold takeCommands
        simp only [List.length_cons]
        rw [he]
    · have he := runCommand_waiting (fun t ht => hi ⟨t, ht⟩) { d with responder := { d.responder with queue := waiting } }
      unfold takingTest
      rw [show (runCommand _ _).responder.queue = waiting from he]

end Sys2Proof.Machine
end

