-- ==== Sys2Proof/Laws/Timers.lean ====
section
/-! SUPPORT. What the expiries and the tick do, said once: an expiry that is not due leaves the device alone, so a millisecond in which
nothing is due is the tick itself; a slot's expiries stay within it. -/

namespace Sys2Proof.Machine.Device

theorem presenceExpires_of_not_due {i : Slot} {d : Device} (h : ¬d.SlotDue i) : d.presenceExpires i = d :=
  if_neg fun k => h (.inl k)

theorem liftHoldExpires_of_not_due {i : Slot} {d : Device} (h : ¬d.SlotDue i) : d.liftHoldExpires i = d :=
  if_neg fun k => h (.inr k)

theorem slotExpires_of_not_due {i : Slot} {d : Device} (h : ¬d.SlotDue i) : d.slotExpires i = d := by
  unfold slotExpires
  rw [liftHoldExpires_of_not_due h, presenceExpires_of_not_due h]

/-- With nothing due, no expiry is taken. -/
theorem takeDue_of_not_due {d : Device} (h : ¬d.AnyDue) : d.takeDue = d := by
  have hs : ∀ l : List Slot, l.foldl slotExpires d = d := by
    intro l
    induction l with
    | nil => rfl
    | cons i l ih =>
      rw [List.foldl_cons, slotExpires_of_not_due fun k => h (.inl ⟨i, k⟩)]
      exact ih
  unfold takeDue
  rw [hs]
  exact if_neg fun k => h (.inr k)

/-- With nothing due, a millisecond is its tick. -/
theorem millisecond_of_not_due {d : Device} (h : ¬d.AnyDue) : d.millisecond = d.tick := by
  unfold millisecond
  rw [takeDue_of_not_due h]

theorem presenceExpires_within (i : Slot) (d : Device) : d.Within i (d.presenceExpires i) :=
  Within.ite (dropRange_within i _ d) (Within.refl i d)

theorem liftHoldExpires_within (i : Slot) (d : Device) : d.Within i (d.liftHoldExpires i) :=
  Within.ite ((closeStroke_within i _ _ d).trans (setContact_within i _ _)) (Within.refl i d)

/-- The expiries of a slot stay within it. -/
theorem slotExpires_within (i : Slot) (d : Device) : d.Within i (d.slotExpires i) :=
  (liftHoldExpires_within i d).trans (presenceExpires_within i _)

/-- What the pacer's expiry does: the flush trigger and the next period where it is due, else nothing. -/
theorem pacerExpires_cases (d : Device) :
    d.pacerExpires =
      if d.framer.state = .enabled ∧ d.framer.timer = some 0 then
        { d.flushTrigger with framer := d.flushTrigger.framer.beginPeriod (d.flushTrigger.framer.cycle + 1) }
      else d := rfl

end Sys2Proof.Machine.Device
end

