-- ==== Sys2Proof/Tests/Slice0.lean ====
section
/-! SUPPORT. Tests of the model: the ill-formed terms that WellFormed refuses, cells and operands written out from the figures of
spec/11_cell_and_frame_formats.md, single steps on small states with the values that the spec's tables give, and a witness for the
hypotheses of each statement that has any. -/

namespace Sys2Proof.Tests

open Sys2Proof.Machine

set_option Elab.async false

/-! ## Well-formedness -/

/-- A SAMPLE cell, one that its last byte makes invalid, and one of an undefined kind. -/
def someSample : Cell := encodeSample 3 15 ⟨0xFFFFFF, .tip, false, 65535, 0, 4095⟩
def brokenSample : Cell := someSample.set 15 0
def unknownKind : Cell := sealCell #v[0xD3, 0x80, 0, 0, 0, 0, 0, 0, 0, 0, 0, 0, 0, 0, 0]
def someProximity : Cell := encodeProximity 0 0 0 .leave
def unknownEvent : Cell := sealCell #v[0xD2, 0x40, 0, 0, 0, 3, 0, 0, 0, 0, 0, 0, 0, 0, 0]
def someCommand : Cell := encodeCommandCell ⟨0x34, 7, operandBytes []⟩

theorem test_sample_row_refuses_proximity : (Instr.sample someProximity).wellFormed = false := by decide +kernel
theorem test_proximity_row_refuses_command : (Instr.proximity someCommand).wellFormed = false := by decide +kernel
theorem test_command_row_refuses_sample : (Instr.commandCell someSample).wellFormed = false := by decide +kernel
theorem test_invalid_row_refuses_good_cell : (Instr.invalidCell someSample).wellFormed = false := by decide +kernel
theorem test_unknown_command_refuses_known_code : (Instr.unknownCommand 0x34 7).wellFormed = false := by decide +kernel
theorem test_rows_take_their_cells :
    (Instr.sample someSample).wellFormed = true ∧ (Instr.proximity someProximity).wellFormed = true ∧
      (Instr.commandCell someCommand).wellFormed = true ∧ (Instr.invalidCell brokenSample).wellFormed = true ∧
      (Instr.invalidCell unknownKind).wellFormed = true ∧ (Instr.invalidCell unknownEvent).wellFormed = true ∧
      (Instr.unknownCommand 0xFE 7).wellFormed = true := by decide +kernel

/-! ## Formats (Chapter 11) -/

/-- R180: over the nine characters 1 to 9 the CRC-8 is F4H and the CRC-16 is 29B1H. -/
theorem test_check_codes :
    crc8 [0x31, 0x32, 0x33, 0x34, 0x35, 0x36, 0x37, 0x38, 0x39] = 0xF4 ∧
      crc16 [0x31, 0x32, 0x33, 0x34, 0x35, 0x36, 0x37, 0x38, 0x39] = 0x29B1 := by decide +kernel

/-- Figure 11-2: lane 2, sequence 9, transducer 123456H, eraser with the button, x 0102H, y 0304H, pressure A0BH; reserved bits set. -/
theorem test_sample_layout :
    classify (sealCell #v[0xD1, 0xB9, 0x12, 0x34, 0x56, 0xF3, 0x01, 0x02, 0x03, 0x04, 0xFA, 0x0B, 9, 9, 9]) =
      .sample 2 9 ⟨0x123456, .eraser, true, 0x0102, 0x0304, 0xA0B⟩ := by decide +kernel

/-- Figure 11-2: a PROXIMITY ENTER on lane 1. -/
theorem test_proximity_layout :
    classify (sealCell #v[0xD2, 0x45, 0, 0, 1, 1, 7, 7, 7, 7, 7, 7, 7, 7, 7]) = .proximity 1 5 1 .enter := by decide +kernel

/-- Figure 11-3: one command of each family, its operands written out byte by byte. -/
theorem test_set_time_operands : decodeCommand ⟨0x15, 3, #v[0x00, 0x01, 0x86, 0xA0, 9, 9, 9, 9, 9, 9]⟩ = .setTime 3 100000 := by decide +kernel
theorem test_read_counters_operands : decodeCommand ⟨0x11, 3, #v[0x82, 0, 0, 0, 0, 0, 0, 0, 0, 0]⟩ = .readCounters 3 2 true := by decide +kernel
theorem test_write_admission_operands :
    decodeCommand ⟨0x20, 3, #v[0x87, 0x12, 0x34, 0x56, 0xFF, 0xFF, 0x00, 0xC9, 0x02, 9]⟩ =
      .writeAdmission 3 7 true 0x123456 0xFFFF00 ⟨1, 2, 12⟩ 2 := by decide +kernel
theorem test_write_profile_operands :
    decodeCommand ⟨0x22, 3, #v[0x03, 0x01, 0x2C, 0x00, 0xC8, 0x4C, 0x92, 0x08, 0x78, 9]⟩ =
      .writeProfile 3 3 ⟨300, 200, 2, 12, 2, 8, 1, 120, true⟩ := by decide +kernel
theorem test_set_offset_operands :
    decodeCommand ⟨0x28, 3, #v[0x0B, 0xFF, 0xFB, 0x00, 0x03, 9, 9, 9, 9, 9]⟩ = .setOffset 3 11 0xFFFB 3 := by decide +kernel
theorem test_write_zone_attributes_operands :
    decodeCommand ⟨0x31, 3, #v[0x8F, 0xE4, 0x02, 0x28, 0, 0, 0, 0, 0, 0]⟩ =
      .writeZoneAttributes 3 15 true ⟨⟨.off, .localInk, .shareInk, .both⟩, false, true, 40⟩ := by decide +kernel
theorem test_read_stroke_operands : decodeCommand ⟨0x40, 3, #v[2, 11, 1, 0, 0, 0, 0, 0, 0, 0]⟩ = .readStroke 3 2 11 1 := by decide +kernel
theorem test_write_identity_operands :
    decodeCommand ⟨0x50, 3, #v[0x01, 0x02, 0x03, 0, 0, 0, 0, 0, 0, 0]⟩ = .writeIdentity 3 0x0102 3 := by decide +kernel
theorem test_ack_operands : decodeCommand ⟨0x61, 3, #v[0x0C, 0x1F, 0, 0, 0, 0, 0, 0, 0, 0]⟩ = .ack 3 12 31 := by decide +kernel
theorem test_undefined_code : decodeCommand ⟨0x64, 3, operandBytes []⟩ = .unknownCommand 0x64 3 := by decide +kernel

/-- Figure 11-4: an OPEN of stroke 0102H, slot 11, eraser, continued, a TEACHER's of group 3, in the open area. -/
theorem test_open_layout :
    overlayCell (.openRec ⟨0x0102, 11, .teacher, 3, .eraser, 0, 16, 0x0304, 0x0506, 7, 0x0809, true⟩) =
      [0x50, 1, 2, 0x3B, 0x0C, 3, 4, 5, 6, 7, 8, 9, 0, 0, 0, 0] := by decide +kernel

/-- Figure 11-4: a CLOSE with 0304H segments, ZONE_EXIT, coalesced with a lane gap. -/
theorem test_close_layout :
    overlayCell (.closeRec ⟨0x0102, 0x0304, .zoneExit, ⟨true, false, false, true⟩, 0x0506⟩) =
      [0xC0, 1, 2, 3, 4, 3, 9, 5, 6, 0, 0, 0, 0, 0, 0, 0] := by decide +kernel

/-- Figure 11-5: the status byte with everything set in DRAINING. -/
theorem test_status_byte : statusByte ⟨true, true, true, .draining, true⟩ = 0x37 := by decide +kernel

/-! ## Tables of the spec -/

/-- Figure 6-3: increments at the rounding boundaries. -/
theorem test_increments :
    roundedShift (-6) 0 = -6 ∧ roundedShift (-3) 1 = -2 ∧ roundedShift 1 1 = 1 ∧ roundedShift 640 2 = 160 ∧ roundedShift (-6) 2 = -2 ∧
      roundedShift (-2) 2 = -1 ∧ roundedShift (-1) 2 = 0 ∧ roundedShift (-12) 3 = -2 ∧ roundedShift (-11) 3 = -1 ∧
      roundedShift 24 4 = 2 ∧ roundedShift 7 4 = 0 := by decide +kernel

/-- Figure 6-4: widths along the default curve. -/
theorem test_widths :
    tipWidth Config.defaultKnots 0 = 10 ∧ tipWidth Config.defaultKnots 128 = 11 ∧ tipWidth Config.defaultKnots 511 = 12 ∧
      tipWidth Config.defaultKnots 1280 = 15 ∧ tipWidth Config.defaultKnots 1800 = 17 ∧ tipWidth Config.defaultKnots 4095 = 26 := by
  decide +kernel

/-- Figure 6-5: the sample at 3,004 of Case 1, and its unit point. -/
theorem test_smoothing_case :
    smoothValue 2 ⟨1043, 2005⟩ (seedValue ⟨1003, 1995⟩) = ⟨16208, 31960⟩ ∧ FilterValue.unitPoint ⟨16208, 31960⟩ = ⟨1013, 1998⟩ := by
  decide +kernel

/-- Figure 6-6: 109 and 388 are below 400, 981 is not. -/
theorem test_decimation_case :
    segmentDue 20 ⟨1003, 1995⟩ ⟨1013, 1998⟩ = false ∧ segmentDue 20 ⟨1003, 1995⟩ ⟨1033, 2004⟩ = true ∧
      segmentDue 20 ⟨1033, 2004⟩ ⟨1051, 2012⟩ = false := by decide +kernel

/-- The zones of the decode example of R61. -/
def exampleBank : Bank :=
  { Bank.reset with
    zones :=
      (((Bank.reset.zones.set 0 ⟨true, 0, 19999, 0, 65535, Config.resetZoneRules⟩).set 1
        ⟨false, 0, 65535, 0, 65535, Config.resetZoneRules⟩).set 2 ⟨true, 15000, 39999, 10000, 29999, Config.resetZoneRules⟩).set 3
          ⟨true, 40000, 30000, 0, 65535, Config.resetZoneRules⟩ }

/-- R61: the results of the decode example. -/
theorem test_decode_example :
    exampleBank.decode 12000 20000 = 0 ∧ exampleBank.decode 18000 20000 = 0 ∧ exampleBank.decode 20000 20000 = 2 ∧
      exampleBank.decode 19999 9999 = 0 ∧ exampleBank.decode 40000 20000 = 16 := by decide +kernel

/-! ## Small states -/

/-- The device after hard reset with the link UP, and states of it. -/
def up : Device := Device.reset.linkRises
def at' (d : Device) : State := ⟨d, []⟩

/-- Transducer FFFFFFH, a TEACHER's pen of group 3, bound to slot 11 on lane 3, without settling. -/
def pen : PenSlot :=
  { PenSlot.reset with
    binding := .bound, transducer := 0xFFFFFF, lane := 3, role := .teacher, group := 3, colour := 15,
    params := { Config.defaultProfile with settleCount := 0, liftHold := 0, smoothing := 0 } }

/-- The link UP and that pen in a contact state. -/
def penIn (c : ContactState) : Device :=
  (up.setSlot 11 pen).setContact 11
    { Contact.reset with
      state := c, settle := 1, wait := .waiting
      liftHold := if c = .holding then some 0 else none
      presence := if c = .away then none else some 0 }

/-- The pen with other terms. -/
def penWith (c : ContactState) (p : PenSlot) : Device := (penIn c).setSlot 11 p

/-- Its stroke in the open area, and the stroke's delivery record. -/
def stroke : StrokeContext :=
  { StrokeContext.closed with
    isOpen := true, id := 0xFFFF, role := .teacher, group := 3, colour := 15, zone := 16, steering := .localInk, lastX := 100,
    lastY := 200, lastWidth := 11 }
def delivery : Delivery := ⟨0xFFFF, 11, true, false, false, false, false, false, true, false⟩

/-- The pen in INKING or HOLDING with its stroke open. -/
def drawing (c : ContactState) : Device :=
  let d := (penIn c).setContext 11 stroke
  { d with router := { d.router with deliveries := [delivery] }, zones := { d.zones with bankA := { d.zones.bankA with bindings := 1 } } }

/-- The open area of the active bank under other rules. -/
def underRules (r : ZoneRules) (d : Device) : Device :=
  { d with zones := { d.zones with bankA := { d.zones.bankA with openArea := r } } }
def protectedRules : ZoneRules := ⟨⟨.off, .off, .off, .off⟩, false, true, 0⟩
def closedRules : ZoneRules := Config.resetZoneRules

/-- Zone 0 of the active bank enabled over the columns from 1000 on, under these rules. -/
def withZone (r : ZoneRules) (d : Device) : Device :=
  { d with
    zones := { d.zones with bankA := { d.zones.bankA with zones := d.zones.bankA.zones.set 0 ⟨true, 1000, 65535, 0, 65535, r⟩ } } }

/-- A sample of that pen, and its cell. -/
def tip (x y : Word16) (p : BitVec 12) : SampleFields := ⟨0xFFFFFF, .tip, false, x, y, p⟩
def tipCell (x y : Word16) (p : BitVec 12) : Cell := encodeSample 3 15 (tip x y p)

/-- Its other end. -/
def eraser (x y : Word16) (p : BitVec 12) : SampleFields := ⟨0xFFFFFF, .eraser, false, x, y, p⟩
def eraserCell (x y : Word16) (p : BitVec 12) : Cell := encodeSample 3 15 (eraser x y p)

/-- Its PROXIMITY cells. -/
def enterCell : Cell := encodeProximity 3 15 0xFFFFFF .enter
def leaveCell : Cell := encodeProximity 3 15 0xFFFFFF .leave

/-- A sample as the slot takes it at session time 0. -/
def taken (f : SampleFields) : Sample := ⟨f, 0⟩

/-! ## Single steps -/

/-- The device of an outcome. -/
def after (i : Instr) (d : Device) : Device :=
  match exec i (at' d) with
  | .next s => s.dev
  | _ => d

/-- R49, R85: a contact of a pen without settle opens stroke 1 at its corrected point. -/
theorem test_contact_opens_stroke_one :
    ((after (.sample (tipCell 100 200 300)) (penIn .hover)).context 11).id = 1 ∧
      ((after (.sample (tipCell 100 200 300)) (penIn .hover)).context 11).lastX = 100 ∧
      ((after (.sample (tipCell 100 200 300)) (penIn .hover)).contact 11).state = .inking := by decide +kernel

/-- R42: pressure 299 is below the down threshold of 300. -/
theorem test_below_down_threshold :
    ((after (.sample (tipCell 100 200 299)) (penIn .hover)).contact 11).state = .hover := by decide +kernel

/-- R52, R93: a lift with lift-hold 0 closes with LIFT. -/
theorem test_lift_closes :
    ((after (.sample (tipCell 100 200 199)) (drawing .inking)).summary 11).reason = .lift ∧
      ((after (.sample (tipCell 100 200 199)) (drawing .inking)).router.overlayQueue.length = 1) := by decide +kernel

/-- R14: READ TIME at 000186A0H, with tag 3CH (the example of section 1.4.1). -/
theorem test_read_time_example :
    ((after (.readTime 0x3C) { up with clock := 0x000186A0 }).arbiter.replies.map fun r => r.bytes.take 11) =
      [[0xA0, 0x00, 0x3C, 0x14, 0x00, 0x00, 0x00, 0x01, 0x86, 0xA0, 0x00]] := by decide +kernel

/-- R15: SET TIME moves the last-seen time of a BOUND slot with the clock. -/
theorem test_set_time_moves_last_seen : ((after (.setTime 1 1000) (penIn .hover)).slot 11).lastSeen = 1000 := by decide +kernel

/-- R33: an offset of 600 is stored as 511. -/
theorem test_offset_is_clamped : ((after (.setOffset 1 11 600 0xFFFF) (penIn .hover)).slot 11).offsetX = 511 := by decide +kernel

/-- R69: an APPLY with no stroke open exchanges the banks at once. -/
theorem test_apply_idle : (after (.apply 1) up).zones.active = .b ∧ (after (.apply 1) up).zones.apply = .idle := by decide +kernel

/-- R69: an APPLY with a stroke open begins a retiring. -/
theorem test_apply_retires : (after (.apply 1) (drawing .inking)).zones.apply = .retiring := by decide +kernel

/-- R144: a period of 0 is stored as 1. -/
theorem test_pacing_is_clamped : (after (.setPacing 1 0 3) up).framer.period = 1 := by decide +kernel

/-- R142: a period begun at position 0 with a fine value of 3 lasts P + 1. -/
theorem test_enable_starts_pacer :
    (after (.shareEnable 1) { up with framer := { up.framer with written := true, fine := 3 } }).framer.timer = some 21 := by decide +kernel

/-- R18: an unknown pen without guest admission posts UNKNOWN_PEN for its lane. -/
theorem test_unknown_pen :
    ((after (.sample someSample) up).notices.entries.map fun e => (e.kind, e.subject)) = [(.unknownPen, some 3)] := by decide +kernel

/-- R153: the ninth waiting command is dropped. -/
theorem test_ninth_command_overruns :
    let full : Device :=
      { up with responder := ⟨List.replicate 8 ⟨0x14, 1, operandBytes []⟩, false, some ⟨1, .admission, 1, 7⟩⟩ }
    (after (.readTime 9) full).responder.overrun = true ∧ (after (.readTime 9) full).responder.queue.length = 8 := by decide +kernel

/-- Figure 11-6: READ SLOT, part 0, of slot 11 (lane 3, attribute byte 4 × 3 + 16 × 15 = FCH, HOVER is 2). -/
theorem test_read_slot_payload :
    ((after (.readSlot 9 11 11 0) (penIn .hover)).arbiter.replies.map fun r => (r.bytes.drop 6).take 16) =
      [[11, 0, 1, 1, 0xFF, 0xFF, 0xFF, 3, 0xFC, 2, 0, 0, 0, 0, 0, 0]] := by decide +kernel

/-- R176: an ACK that leaves the condition true starts a pulse. -/
theorem test_ack_pulses :
    let d : Device := (up.post .penBound (some 0)).post .applyDone none
    (after (.ack 1 8 31) d).notices.line = .pulsing ∧ (after (.ack 1 8 31) d).notices.entries.length = 1 := by decide +kernel

/-! ## Witnesses

For each statement that has hypotheses, a state and operands that meet them, clause by clause. -/

/-- Every slot disabled, so that none can take a new pen. -/
def noSlots : Device :=
  { up with pens := { up.pens with slots := Vector.replicate 12 { PenSlot.reset with enabled := false }, guestAdmission := true } }

/-- Every slot BOUND to a pen that is AWAY, slot 11's seen longest ago. -/
def allAway : Device :=
  let d : Device :=
    { up with
      clock := 5
      contacts := Vector.replicate 12 { Contact.reset with state := .away }
      pens :=
        { up.pens with
          guestAdmission := true
          slots := Vector.ofFn fun j : Fin 12 =>
            { PenSlot.reset with binding := .bound, transducer := BitVec.ofNat 24 j.val, lastSeen := if j = 11 then 0 else 1 } } }
  d

/-- Guests taken in. -/
def guests : Device := { up with pens := { up.pens with guestAdmission := true } }

theorem witness_link_line :
    (drawing .inking).SlotsSound ∧ ((drawing .inking).context 11).isOpen = true ∧ ((drawing .inking).contact 11).state = .inking ∧
      ((drawing .inking).contact 0).state = .free ∧ ((drawing .inking).context 0).isOpen = false := by decide +kernel

/-- Every timer at its last tick: the drawing pen's presence, the held pen's lift-hold, the pacer's period. -/
def heldDue : Device := (drawing .holding).setContact 11 { (drawing .holding).contact 11 with presence := some 5 }
def pacerDue : Device := { up with framer := { up.framer with state := .enabled, written := true, timer := some 0 } }

/-- No timer at its last tick, the presence timer with five to go. -/
def notDue : Device := (drawing .inking).setContact 11 { (drawing .inking).contact 11 with presence := some 5 }

theorem witness_ticks :
    ¬notDue.AnyDue ∧ (∀ m : Nat, m < 5 → ¬(Nat.iterate Device.tick m notDue).AnyDue) ∧ notDue.SlotsSound ∧ notDue.ShareSound ∧
      (notDue.contact 11).presence ≠ some 0 := by decide +kernel

theorem witness_presence_expires :
    (drawing .inking).SlotsSound ∧ (drawing .inking).ShareSound ∧ ((drawing .inking).contact 11).presence = some 0 ∧
      ((drawing .inking).context 11).isOpen = true := by decide +kernel

theorem witness_presence_expires_in_hover :
    (penIn .hover).SlotsSound ∧ (penIn .hover).ShareSound ∧ ((penIn .hover).contact 11).presence = some 0 ∧
      ((penIn .hover).context 11).isOpen = false := by decide +kernel

theorem witness_lift_hold_expires :
    heldDue.SlotsSound ∧ heldDue.ShareSound ∧ (heldDue.contact 11).presence ≠ some 0 ∧ (heldDue.contact 11).state = .holding ∧
      (heldDue.contact 11).liftHold = some 0 := by decide +kernel

theorem witness_pacer_expires :
    pacerDue.SlotsSound ∧ pacerDue.ShareSound ∧ pacerDue.framer.timer = some 0 := by decide +kernel

/-- R12, R45: a presence timer with no tick left has expired, at its own tick's session time, when the next tick comes. -/
theorem test_next_tick_finds_expiry_taken :
    ((after .millisecondTick { drawing .inking with clock := 7 }).summary 11).closeTime = 7 ∧
      ((after .millisecondTick { drawing .inking with clock := 7 }).summary 11).reason = .lost ∧
      ((after .millisecondTick notDue).contact 11).presence = some 4 := by decide +kernel

theorem witness_unfit_cells :
    Device.reset.receiver.link = .down ∧ up.receiver.link = .up ∧ Cell.check brokenSample ≠ brokenSample[15] ∧
      (unknownKind[0] ≠ 0xD1 ∧ unknownKind[0] ≠ 0xD2 ∧ unknownKind[0] ≠ 0xD7) ∧
      (unknownEvent[0] = 0xD2 ∧ unknownEvent[5] ≠ 0x01 ∧ unknownEvent[5] ≠ 0x02) := by decide +kernel

/-- A lane that expects 14 is given 15 by a pen of another transducer, while slot 11's stroke is open on that lane. -/
def gapDevice : Device := (drawing .inking).setLane 3 ⟨some 14, 0, 0⟩
def strangerLeaves : Cell := encodeProximity 3 15 1 .leave

theorem witness_lane_check :
    gapDevice.receiver.link = .up ∧ classify (tipCell 1 2 3) = .sample 3 15 (tip 1 2 3) ∧
      classify enterCell = .proximity 3 15 0xFFFFFF .enter ∧ classify strangerLeaves = .proximity 3 15 1 .leave ∧
      gapDevice.slotOfPen 1 = none ∧ (gapDevice.lane 3).passes 15 = false ∧ (gapDevice.context 11).isOpen = true ∧
      (gapDevice.slot 11).lane = 3 := by decide +kernel

theorem witness_refused_pens :
    up.receiver.link = .up ∧ up.slotOfPen 0xFFFFFF = none ∧ up.pens.termsFor 0xFFFFFF = none ∧
      classify (tipCell 1 2 3) = .sample 3 15 (tip 1 2 3) ∧ classify enterCell = .proximity 3 15 0xFFFFFF .enter ∧
      noSlots.receiver.link = .up ∧ noSlots.slotOfPen 0xFFFFFF = none ∧ noSlots.pens.termsFor 0xFFFFFF ≠ none ∧
      ∀ i : Slot, ¬((noSlots.slot i).enabled = true ∧ (noSlots.slot i).binding = .free) ∧ (noSlots.contact i).state ≠ .away := by
  decide +kernel

theorem witness_new_pen_free_slot :
    guests.receiver.link = .up ∧ classify enterCell = .proximity 3 15 0xFFFFFF .enter ∧ guests.slotOfPen 0xFFFFFF = none ∧
      guests.pens.termsFor 0xFFFFFF = some ⟨.guest, 3, 15, 0⟩ ∧ (guests.slot 0).enabled = true ∧
      (guests.slot 0).binding = .free ∧ ∀ j : Slot, j < 0 → ¬((guests.slot j).enabled = true ∧ (guests.slot j).binding = .free) := by
  decide +kernel

/-- Guests taken in whose profile has no settle, and where the open area takes no ink. -/
def quickGuests : Device :=
  { guests with pens := { guests.pens with profiles := guests.pens.profiles.set 0 { Config.defaultProfile with settleCount := 0 } } }
def guestsTurnedAway : Device := underRules closedRules quickGuests

theorem witness_new_pen_sample :
    guests.pens.Gives 0xFFFFFF ⟨.guest, 3, 15, 0⟩ ∧ classify (tipCell 1 2 300) = .sample 3 15 (tip 1 2 300) ∧
      (tip 1 2 300).transducer = 0xFFFFFF ∧
      (let b := after (.proximity enterCell) guests
       let q := taken (tip 1 2 300)
       (tip 1 2 299).pressure < (b.slot 0).params.down ∧ ¬(tip 1 2 300).pressure < (b.slot 0).params.down ∧
         b.allows 0 (b.effectiveEnd 0 q) (b.activeZone 0 q) = true ∧ (b.slot 0).params.settleCount ≠ 0) ∧
      (let b := after (.proximity enterCell) quickGuests
       let q := taken (tip 1 2 300)
       quickGuests.pens.Gives 0xFFFFFF ⟨.guest, 3, 15, 0⟩ ∧ b.allows 0 (b.effectiveEnd 0 q) (b.activeZone 0 q) = true ∧
         (b.slot 0).params.settleCount = 0) ∧
      (let b := after (.proximity enterCell) guestsTurnedAway
       let q := taken (tip 1 2 300)
       b.allows 0 (b.effectiveEnd 0 q) (b.activeZone 0 q) = false) := by decide +kernel

/-- Two entries that match FFFFFFH, of which entry 3 is the lower; entry 2 differs in a bit that its mask asks for. -/
def listed : PenTable :=
  { up.pens with
    admission :=
      ((up.pens.admission.set 2 ⟨true, 0xFFFFFE, 0x000001, .guest, 1, 1, 1⟩).set 3 ⟨true, 0xFF0000, 0xFF0000, .teacher, 2, 9, 3⟩).set 7
        ⟨true, 0, 0, .student, 1, 1, 1⟩ }

/-- R17: the lowest-numbered entry that matches gives the terms. -/
theorem test_lowest_entry_gives_terms :
    listed.termsFor 0xFFFFFF = some ⟨.teacher, 2, 9, 3⟩ ∧ listed.Gives 0xFFFFFF ⟨.teacher, 2, 9, 3⟩ ∧
      listed.termsFor 0x00FFFE = some ⟨.guest, 1, 1, 1⟩ := by decide +kernel

theorem witness_new_pen_eviction :
    allAway.receiver.link = .up ∧ allAway.pens.Gives 0xFFFFFF ⟨.guest, 3, 15, 0⟩ ∧ allAway.slotOfPen 0xFFFFFF = none ∧ allAway.pens.termsFor 0xFFFFFF = some ⟨.guest, 3, 15, 0⟩ ∧
      (∀ j : Slot, ¬((allAway.slot j).enabled = true ∧ (allAway.slot j).binding = .free)) ∧ (allAway.contact 11).state = .away ∧
      ∀ j : Slot, (allAway.contact j).state = .away →
        allAway.age (allAway.slot j).lastSeen < allAway.age (allAway.slot 11).lastSeen ∨
          allAway.age (allAway.slot j).lastSeen = allAway.age (allAway.slot 11).lastSeen ∧ (11 : Slot) ≤ j := by decide +kernel

theorem witness_pen_cells_refresh :
    SampleFor (at' (penIn .hover)) (tipCell 1 2 299) 11 3 15 (tip 1 2 299) ∧ (tip 1 2 299).pressure < ((penIn .hover).slot 11).params.down ∧
      ((penIn .hover).contact 11).state = .hover ∧ SampleFor (at' (penIn .away)) (tipCell 1 2 299) 11 3 15 (tip 1 2 299) ∧
      ((penIn .away).contact 11).state = .away ∧ ProximityFor (at' (penIn .away)) enterCell 11 3 15 0xFFFFFF .enter ∧
      ProximityFor (at' (penIn .hover)) enterCell 11 3 15 0xFFFFFF .enter := by decide +kernel

theorem witness_leaving_range :
    (drawing .inking).SlotsSound ∧ (drawing .holding).SlotsSound ∧
      ProximityFor (at' (drawing .inking)) leaveCell 11 3 15 0xFFFFFF .leave ∧
      ProximityFor (at' (drawing .holding)) leaveCell 11 3 15 0xFFFFFF .leave ∧
      ((drawing .holding).contact 11).state = .holding ∧ ((drawing .inking).contact 11).presence = some 0 ∧
      (drawing .inking).Ready ∧ ((drawing .inking).slot 11).binding = .bound := by decide +kernel

theorem witness_contact_begin :
    SampleFor (at' (penIn .hover)) (tipCell 1 2 300) 11 3 15 (tip 1 2 300) ∧ ((penIn .hover).contact 11).state = .hover ∧
      ¬(tip 1 2 300).pressure < ((penIn .hover).slot 11).params.down ∧
      (let d := (penIn .hover).received 11 3 15
       d.allows 11 (d.effectiveEnd 11 (taken (tip 1 2 300))) (d.activeZone 11 (taken (tip 1 2 300))) = true) ∧
      ((penIn .hover).slot 11).captureArmed = false ∧ ((penIn .hover).slot 11).params.settleCount = 0 := by decide +kernel

/-- The pen with a settle of 7 samples. -/
def slowPen (c : ContactState) : Device := penWith c { pen with params := { pen.params with settleCount := 7 } }

theorem witness_contact_begin_away :
    SampleFor (at' (slowPen .away)) (tipCell 1 2 300) 11 3 15 (tip 1 2 300) ∧ ((slowPen .away).contact 11).state = .away ∧
      ¬(tip 1 2 300).pressure < ((slowPen .away).slot 11).params.down ∧
      (let d := (slowPen .away).received 11 3 15
       d.allows 11 (d.effectiveEnd 11 (taken (tip 1 2 300))) (d.activeZone 11 (taken (tip 1 2 300))) = true) ∧
      ((slowPen .away).slot 11).captureArmed = false ∧ ((slowPen .away).slot 11).params.settleCount ≠ 0 := by decide +kernel

/-- R47, R49: a contact from AWAY begins its settle at once. -/
theorem test_contact_from_away_settles :
    ((after (.sample (tipCell 100 200 300)) (slowPen .away)).contact 11).state = .settling ∧
      ((after (.sample (tipCell 100 200 300)) (slowPen .away)).contact 11).settle = 7 ∧
      (after (.sample (tipCell 100 200 300)) (slowPen .away)).filter 11 = ⟨1600, 3200⟩ := by decide +kernel

/-- The pen as a STUDENT's over a protected open area, and over one that is closed but not protected. -/
def turnedAway (c : ContactState) (r : ZoneRules) : Device := underRules r (penWith c { pen with role := .student })

theorem witness_refused_contact :
    SampleFor (at' (turnedAway .hover protectedRules)) (tipCell 1 2 300) 11 3 15 (tip 1 2 300) ∧
      SampleFor (at' (turnedAway .hover closedRules)) (tipCell 1 2 300) 11 3 15 (tip 1 2 300) ∧
      ((turnedAway .hover closedRules).contact 11).state = .hover ∧
      ¬(tip 1 2 300).pressure < ((turnedAway .hover closedRules).slot 11).params.down ∧
      (let d := (turnedAway .hover protectedRules).received 11 3 15
       d.allows 11 (d.effectiveEnd 11 (taken (tip 1 2 300))) (d.activeZone 11 (taken (tip 1 2 300))) = false ∧
         (d.zones.activeBank.rulesOf (d.activeZone 11 (taken (tip 1 2 300)))).guarded = true) ∧
      (let d := (turnedAway .hover closedRules).received 11 3 15
       d.allows 11 (d.effectiveEnd 11 (taken (tip 1 2 300))) (d.activeZone 11 (taken (tip 1 2 300))) = false ∧
         (d.zones.activeBank.rulesOf (d.activeZone 11 (taken (tip 1 2 300)))).guarded = false) := by decide +kernel

/-- The pen with two samples of its settle to go. -/
def settlingTwo : Device := (penIn .settling).setContact 11 { (penIn .settling).contact 11 with settle := 2 }

theorem witness_settling :
    SampleFor (at' (penIn .settling)) (tipCell 1 2 199) 11 3 15 (tip 1 2 199) ∧ ((penIn .settling).contact 11).state = .settling ∧
      (tip 1 2 199).pressure < effectiveUp ((penIn .settling).slot 11).params ∧
      SampleFor (at' settlingTwo) (tipCell 1 2 200) 11 3 15 (tip 1 2 200) ∧ (settlingTwo.contact 11).state = .settling ∧
      ¬(tip 1 2 200).pressure < effectiveUp (settlingTwo.slot 11).params ∧ 1 < (settlingTwo.contact 11).settle ∧
      SampleFor (at' (penIn .settling)) (tipCell 1 2 200) 11 3 15 (tip 1 2 200) ∧ ((penIn .settling).contact 11).settle = 1 ∧
      (let d := (penIn .settling).received 11 3 15
       d.allows 11 (d.effectiveEnd 11 (taken (tip 1 2 200))) (d.activeZone 11 (taken (tip 1 2 200))) = true) ∧
      (let d := (turnedAway .settling closedRules).received 11 3 15
       d.allows 11 (d.effectiveEnd 11 (taken (tip 1 2 200))) (d.activeZone 11 (taken (tip 1 2 200))) = false) := by decide +kernel

/-- The pen with capture armed, with settle count 0 and with 1. -/
def armed (c : ContactState) (n : BitVec 3) : Device :=
  penWith c { pen with captureArmed := true, params := { pen.params with settleCount := n } }
def captureEnded : Device := (armed .capture 1).setContact 11 { (armed .capture 1).contact 11 with wait := .ended }
def captureTwo : Device := (armed .capture 2).setContact 11 { (armed .capture 2).contact 11 with settle := 2 }

theorem witness_capture :
    SampleFor (at' (armed .hover 0)) (tipCell 1 2 300) 11 3 15 (tip 1 2 300) ∧
      SampleFor (at' (armed .hover 7)) (tipCell 1 2 300) 11 3 15 (tip 1 2 300) ∧
      ((armed .hover 0).contact 11).state = .hover ∧ ¬(tip 1 2 300).pressure < ((armed .hover 0).slot 11).params.down ∧
      ((armed .hover 0).slot 11).captureArmed = true ∧ ((armed .hover 0).slot 11).params.settleCount = 0 ∧
      ((armed .hover 7).slot 11).params.settleCount ≠ 0 ∧
      (let d := (armed .hover 0).received 11 3 15
       d.allows 11 (d.effectiveEnd 11 (taken (tip 1 2 300))) (d.activeZone 11 (taken (tip 1 2 300))) = true) ∧
      (let d := (armed .hover 7).received 11 3 15
       d.allows 11 (d.effectiveEnd 11 (taken (tip 1 2 300))) (d.activeZone 11 (taken (tip 1 2 300))) = true) ∧
      SampleFor (at' (armed .capture 1)) (tipCell 1 2 199) 11 3 15 (tip 1 2 199) ∧ ((armed .capture 1).contact 11).state = .capture ∧
      (tip 1 2 199).pressure < effectiveUp ((armed .capture 1).slot 11).params ∧
      SampleFor (at' captureEnded) (tipCell 1 2 200) 11 3 15 (tip 1 2 200) ∧ (captureEnded.contact 11).wait = .ended ∧
      SampleFor (at' captureTwo) (tipCell 1 2 200) 11 3 15 (tip 1 2 200) ∧ (captureTwo.contact 11).wait = .waiting ∧
      1 < (captureTwo.contact 11).settle ∧ ((armed .capture 1).contact 11).wait = .waiting ∧
      ((armed .capture 1).contact 11).settle = 1 ∧ ¬(tip 1 2 200).pressure < effectiveUp ((armed .capture 1).slot 11).params := by
  decide +kernel

/-- The stroke live on no output. -/
def suppressed : Device :=
  { drawing .inking with
    router := { (drawing .inking).router with deliveries := [{ delivery with overlayLive := false, overlayReserved := false }] } }

theorem witness_ink_in_zone :
    (let d := (drawing .inking).received 11 3 15
     let q := taken (tip 108 200 200)
     SampleFor (at' (drawing .inking)) (tipCell 108 200 200) 11 3 15 (tip 108 200 200) ∧
       ((drawing .inking).contact 11).state = .inking ∧ ¬(tip 108 200 200).pressure < effectiveUp ((drawing .inking).slot 11).params ∧
       d.effectiveEnd 11 q = (d.context 11).penEnd ∧ d.boundBankZone 11 q = (d.context 11).zone ∧
       (smoothValue 0 (d.corrected 11 q) ((drawing .inking).filter 11)).unitPoint = ⟨108, 200⟩ ∧
       (((drawing .inking).slot 11).params.minStep.toNat : Int) ^ 2 ≤ (108 - 100) * (108 - 100) + 0 ∧
       (d.router.delivery (d.context 11).id).any (·.overlayLive) = true ∧
       d.router.overlayQueue.length + d.router.overlayReservations + 1 ≤ 48) ∧
      (let d := (drawing .inking).received 11 3 15
       let q := taken (tip 107 200 200)
       SampleFor (at' (drawing .inking)) (tipCell 107 200 200) 11 3 15 (tip 107 200 200) ∧
         (smoothValue 0 (d.corrected 11 q) ((drawing .inking).filter 11)).unitPoint = ⟨107, 200⟩ ∧
         d.boundBankZone 11 q = (d.context 11).zone) ∧
      SampleFor (at' suppressed) (tipCell 108 200 200) 11 3 15 (tip 108 200 200) ∧
      ((suppressed.received 11 3 15).router.delivery 0xFFFF).any (·.overlayLive) = false := by decide +kernel

/-- The drawing pen beside a zone that takes it, and beside one that does not. -/
def besideOpen : Device := withZone Config.resetOpenArea (drawing .inking)
def besideClosed : Device := withZone protectedRules (drawing .inking)

theorem witness_zone_exit :
    (let d := besideOpen.received 11 3 15
     let q := taken (tip 1000 200 200)
     SampleFor (at' besideOpen) (tipCell 1000 200 200) 11 3 15 (tip 1000 200 200) ∧ (besideOpen.contact 11).state = .inking ∧
       ¬(tip 1000 200 200).pressure < effectiveUp (besideOpen.slot 11).params ∧ (d.context 11).isOpen = true ∧
       d.effectiveEnd 11 q = (d.context 11).penEnd ∧ d.boundBankZone 11 q ≠ (d.context 11).zone ∧
       d.allows 11 (d.effectiveEnd 11 q) (d.activeZone 11 q) = true) ∧
      (let d := besideClosed.received 11 3 15
       let q := taken (tip 1000 200 200)
       SampleFor (at' besideClosed) (tipCell 1000 200 200) 11 3 15 (tip 1000 200 200) ∧ (besideClosed.contact 11).state = .inking ∧
         d.boundBankZone 11 q ≠ (d.context 11).zone ∧ d.allows 11 (d.effectiveEnd 11 q) (d.activeZone 11 q) = false) := by
  decide +kernel

/-- The drawing pen where the eraser is not allowed. -/
def noErasing : Device := underRules ⟨⟨.localInk, .localInk, .localInk, .localInk⟩, false, false, 0⟩ (drawing .inking)

theorem witness_end_change :
    (let d := (drawing .inking).received 11 3 15
     let q := taken (eraser 100 200 200)
     SampleFor (at' (drawing .inking)) (eraserCell 100 200 200) 11 3 15 (eraser 100 200 200) ∧
       ((drawing .inking).contact 11).state = .inking ∧
       ¬(eraser 100 200 200).pressure < effectiveUp ((drawing .inking).slot 11).params ∧ (d.context 11).isOpen = true ∧
       d.effectiveEnd 11 q ≠ (d.context 11).penEnd ∧ d.allows 11 (d.effectiveEnd 11 q) (d.activeZone 11 q) = true) ∧
      (let d := noErasing.received 11 3 15
       let q := taken (eraser 100 200 200)
       SampleFor (at' noErasing) (eraserCell 100 200 200) 11 3 15 (eraser 100 200 200) ∧ (noErasing.contact 11).state = .inking ∧
         d.effectiveEnd 11 q ≠ (d.context 11).penEnd ∧ d.allows 11 (d.effectiveEnd 11 q) (d.activeZone 11 q) = false) := by
  decide +kernel

/-- The drawing pen with a lift-hold of 63. -/
def longHold : Device := (drawing .inking).setSlot 11 { pen with params := { pen.params with liftHold := 63 } }

theorem witness_lift_and_hold :
    SampleFor (at' (drawing .inking)) (tipCell 100 200 199) 11 3 15 (tip 100 200 199) ∧
      ((drawing .inking).contact 11).state = .inking ∧
      (tip 100 200 199).pressure < effectiveUp ((drawing .inking).slot 11).params ∧ ((drawing .inking).context 11).isOpen = true ∧
      ((drawing .inking).slot 11).params.liftHold = 0 ∧ SampleFor (at' longHold) (tipCell 100 200 199) 11 3 15 (tip 100 200 199) ∧
      (longHold.slot 11).params.liftHold ≠ 0 ∧ SampleFor (at' (drawing .holding)) (tipCell 100 200 299) 11 3 15 (tip 100 200 299) ∧
      ((drawing .holding).contact 11).state = .holding ∧
      (tip 100 200 299).pressure < ((drawing .holding).slot 11).params.down ∧
      (let d := (drawing .holding).received 11 3 15
       let q := taken (tip 100 200 300)
       SampleFor (at' (drawing .holding)) (tipCell 100 200 300) 11 3 15 (tip 100 200 300) ∧
         ¬(tip 100 200 300).pressure < ((drawing .holding).slot 11).params.down ∧
         d.effectiveEnd 11 q = (d.context 11).penEnd ∧ d.boundBankZone 11 q = (d.context 11).zone) ∧
      ((drawing .holding).contact 11).liftHold = some 0 ∧ ((drawing .holding).context 11).isOpen = true := by decide +kernel

theorem witness_blocked :
    SampleFor (at' (penIn .blocked)) (tipCell 1 2 199) 11 3 15 (tip 1 2 199) ∧ ((penIn .blocked).contact 11).state = .blocked ∧
      (tip 1 2 199).pressure < effectiveUp ((penIn .blocked).slot 11).params ∧
      (let d := (penIn .blocked).received 11 3 15
       SampleFor (at' (penIn .blocked)) (tipCell 1 2 200) 11 3 15 (tip 1 2 200) ∧
         ¬(tip 1 2 200).pressure < effectiveUp ((penIn .blocked).slot 11).params ∧
         d.allows 11 (d.effectiveEnd 11 (taken (tip 1 2 200))) (d.activeZone 11 (taken (tip 1 2 200))) = true) ∧
      (let d := (turnedAway .blocked protectedRules).received 11 3 15
       SampleFor (at' (turnedAway .blocked protectedRules)) (tipCell 1 2 200) 11 3 15 (tip 1 2 200) ∧
         d.allows 11 (d.effectiveEnd 11 (taken (tip 1 2 200))) (d.activeZone 11 (taken (tip 1 2 200))) = false) := by
  decide +kernel

/-- The shifts 0, 1 and 4, distances of either sign and of none, and filter values in range. -/
theorem witness_smoothing :
    (1 ≤ 4 ∧ 4 ≤ 4) ∧ (16 * ((0xFFFF : Word16).toNat : Int) - 0 > 0) ∧ (16 * ((0 : Word16).toNat : Int) - 1048560 < 0) ∧
      2 * (2 ^ 2 * (0 - 0) - 2 : Int).natAbs = 2 ^ 2 ∧ (16 * ((1 : Word16).toNat : Int) - 16 = 0) ∧ up.FiltersSound := by
  decide +kernel

theorem witness_held_pen : (1048560 ≤ 1048560) ∧ (4 ≤ 4) := by decide +kernel

/-- The pressures 0 and 4095 on the default curve, and caps below, at and above a width of 10. -/
theorem witness_width :
    (∀ j : Fin 9, (up.pens.curves[index4 (up.slot 0).params.curve])[j] ≠ 0) ∧ (0 : BitVec 12).toNat / 512 = (0 : Fin 8).val ∧
      (4095 : BitVec 12).toNat / 512 = (7 : Fin 8).val ∧ (9 : Byte) < up.widthFor 0 .tip 0 0 ∧ up.widthFor 0 .tip 0 0 ≤ 10 ∧
      up.SettingsSound := by decide +kernel

/-- Slot 11's stroke carries 65535, the candidate is 65535 too, and slot 0 has no stroke open. -/
def wrapping : Device := { drawing .inking with strokes := { (drawing .inking).strokes with candidate := 0xFFFF } }

theorem witness_new_id : wrapping.IdsSound ∧ (wrapping.context 0).isOpen = false ∧ wrapping.newId = 1 := by decide +kernel

/-- Queues with exactly room for an OPEN, and with none for it. -/
def someClose : CloseRecord := ⟨5, 0, .lift, ⟨false, false, false, false⟩, 0⟩
def sharing : Device := { up with framer := { up.framer with state := .enabled, written := true, timer := some 0 } }
def crowded (n m : Nat) : Device :=
  { sharing with
    router :=
      { sharing.router with overlayQueue := List.replicate n (.closeRec someClose), shareQueue := List.replicate m (.closeRec someClose) } }

theorem witness_open_record :
    (crowded 46 4).router.overlayQueue.length + (crowded 46 4).router.overlayReservations + 2 ≤ 48 ∧
      ¬(crowded 47 63).router.overlayQueue.length + (crowded 47 63).router.overlayReservations + 2 ≤ 48 ∧
      (crowded 46 4).router.shareQueue.length + (crowded 46 4).router.shareReservations + 2 ≤ 64 ∧
      ¬(crowded 47 63).router.shareQueue.length + (crowded 47 63).router.shareReservations + 2 ≤ 64 ∧
      (crowded 46 4).framer.state = .enabled ∧ Role.teacher ≠ .guest := by decide +kernel

/-- A full overlay queue that holds a SEG of stroke 9 behind its head, and one with none but a SEG of stroke 8. -/
def seg (id : Word16) : SegRecord := ⟨id, 1, 0, 0, 1, 1, 1, 0⟩
def fullWith (id : Word16) : Router :=
  { Router.reset with overlayQueue := [.segRec (seg 8)] ++ .segRec (seg id) :: List.replicate 46 (.closeRec someClose), overlayTx := some [] }

/-- R140: the sixth record makes a frame, the twelfth makes two, and the fifth none. -/
theorem test_share_record_triggers_frames :
    ((crowded 0 5).offerShareSeg 11 (seg 9)).framer.framesBuilt = 1 ∧ ((crowded 0 11).offerShareSeg 11 (seg 9)).framer.framesBuilt = 2 ∧
      ((crowded 0 4).offerShareSeg 11 (seg 9)).framer.framesBuilt = 0 := by decide +kernel

/-- A full overlay queue whose SEG of stroke 9 is one of an earlier stroke of that id, behind which the stroke's own OPEN stands. -/
def someOpen (id : Word16) : OpenRecord := ⟨id, 11, .teacher, 3, .tip, 15, 16, 0, 0, 1, 0, false⟩
def idGivenAgain : Router :=
  { fullWith 9 with
    overlayQueue := [.segRec (seg 8), .segRec (seg 9), .openRec (someOpen 9)] ++ List.replicate 45 (.closeRec someClose) }

/-- R123: a SEG of an earlier stroke of the same id is no target. -/
theorem test_segment_of_an_earlier_stroke_is_kept :
    (idGivenAgain.offerOverlaySeg (seg 9)).overlayQueue = idGivenAgain.overlayQueue ∧
      (idGivenAgain.offerOverlaySeg (seg 9)).droppedSegs = 1 := by decide +kernel

theorem witness_refused_seg :
    (crowded 47 4).router.overlayQueue.length + (crowded 47 4).router.overlayReservations + 1 ≤ 48 ∧
      ¬(fullWith 9).overlayQueue.length + (fullWith 9).overlayReservations + 1 ≤ 48 ∧
      (fullWith 9).overlayQueue = [.segRec (seg 8)] ++ .segRec (seg 9) :: List.replicate 46 (.closeRec someClose) ∧
      [InkRecord.segRec (seg 8)] ≠ [] ∧ (∀ x ∈ List.replicate 46 (InkRecord.closeRec someClose), x.id ≠ (seg 9).id) ∧
      ¬(fullWith 7).overlayQueue.length + (fullWith 7).overlayReservations + 1 ≤ 48 ∧
      (∀ x ∈ (fullWith 7).overlayQueue.drop 1, x.id ≠ (seg 8).id) ∧
      ¬idGivenAgain.overlayQueue.length + idGivenAgain.overlayReservations + 1 ≤ 48 ∧
      idGivenAgain.overlayQueue.drop 1 =
        [.segRec (seg 9)] ++ .openRec (someOpen 9) :: List.replicate 45 (.closeRec someClose) ∧
      (∀ x ∈ List.replicate 45 (InkRecord.closeRec someClose), x.id ≠ (seg 9).id) ∧
      (crowded 47 4).router.shareQueue.length + (crowded 47 4).router.shareReservations + 1 ≤ 64 ∧
      ¬(crowded 47 64).router.shareQueue.length + (crowded 47 64).router.shareReservations + 1 ≤ 64 := by decide +kernel

theorem witness_open_is_no_target : ∀ y : SegRecord, InkRecord.openRec (someOpen 9) ≠ .segRec y := fun _ h => by cases h

/-- A stroke live on both outputs. -/
def bothLive : Device :=
  { drawing .inking with
    router := { (drawing .inking).router with deliveries := [{ delivery with shareLive := true, shareReserved := true }] } }

theorem witness_close_record :
    (drawing .inking).router.delivery 0xFFFF = some delivery ∧ delivery.shareLive = false ∧
      (bothLive.router.delivery 0xFFFF).map (·.shareLive) = some true ∧
      bothLive.router.Sound ∧ bothLive.router.deliveries.Pairwise (fun u w => u.id ≠ w.id) := by decide +kernel

/-- A pen drawing on both outputs, with so many records in the share queue. -/
def drawingOnBoth (m : Nat) : Device :=
  { bothLive with framer := sharing.framer, router := { bothLive.router with shareQueue := (crowded 0 m).router.shareQueue } }

theorem witness_ink_on_share_path :
    (let d := (drawingOnBoth 5).received 11 3 15
     let q := taken (tip 108 200 200)
     SampleFor (at' (drawingOnBoth 5)) (tipCell 108 200 200) 11 3 15 (tip 108 200 200) ∧
       ((d.router.delivery (d.context 11).id).any fun v => v.shareLive && !v.shareTruncated) = true ∧
       d.effectiveEnd 11 q = (d.context 11).penEnd ∧ d.boundBankZone 11 q = (d.context 11).zone ∧
       d.router.shareQueue.length + d.router.shareReservations + 1 ≤ 64) ∧
      (let d := (drawingOnBoth 63).received 11 3 15
       SampleFor (at' (drawingOnBoth 63)) (tipCell 108 200 200) 11 3 15 (tip 108 200 200) ∧
         ¬d.router.shareQueue.length + d.router.shareReservations + 1 ≤ 64) ∧
      (((drawing .inking).received 11 3 15).router.delivery 0xFFFF).any (fun v => v.shareLive && !v.shareTruncated) = false := by
  decide +kernel

/-- R125, R140: a due SEG enters the share queue and triggers a frame of six, or cuts the stroke short where no place is left. -/
theorem test_ink_reaches_share_path :
    (after (.sample (tipCell 108 200 200)) (drawingOnBoth 5)).framer.recordsFramed = 6 ∧
      (after (.sample (tipCell 108 200 200)) (drawingOnBoth 63)).router.truncatedStrokes = 1 := by decide +kernel

theorem witness_overlay_egress :
    (crowded 1 0).router.overlayQueue = .closeRec someClose :: [] ∧ (crowded 1 0).router.overlayTx = none ∧
      (fullWith 9).overlayTx = some [] ∧ ∃ rest, (fullWith 9).overlayQueue = .segRec (seg 8) :: rest :=
  ⟨rfl, rfl, rfl, _, rfl⟩

/-- A reply, four of them with the head in transmission and a command waiting, and a HELD frame. -/
def someReply : ReplyCell := formReply 1 0x14 .done up.status []
def someCommandRead : Command := ⟨0x14, 1, operandBytes []⟩
def replying : Device :=
  { up with
    arbiter := ⟨List.replicate 4 someReply, some (.reply someReply.bytes)⟩
    responder := ⟨[someCommandRead], false, none⟩ }
def someFrame : Frame := Frame.sealed ⟨1, 2, 3, 4, 5, [.closeRec someClose], 0⟩
def holdingFrame : Device :=
  { sharing with framer := { sharing.framer with buffers := sharing.framer.buffers.set 1 (.held someFrame), heldOrder := [1] } }

theorem witness_share_egress :
    (up.answered someReply).arbiter.inTransmission = none ∧ (up.answered someReply).arbiter.replies = someReply :: [] ∧
      holdingFrame.arbiter.inTransmission = none ∧ holdingFrame.arbiter.replies = [] ∧ holdingFrame.framer.heldOrder = 1 :: [] ∧
      holdingFrame.framer.buffers[(1 : Fin 2)] = .held someFrame ∧
      replying.arbiter.inTransmission = some (.reply someReply.bytes) ∧
      replying.arbiter.replies = someReply :: List.replicate 3 someReply ∧ replying.responder.reading = none ∧
      replying.responder.queue = [someCommandRead] ∧ (List.replicate 3 someReply).length < 4 ∧
      ({ replying with responder := ⟨[], false, none⟩ } : Device).responder.queue = [] ∧
      ({ replying with responder := ⟨[], false, some ⟨1, .admission, 1, 7⟩⟩ } : Device).responder.reading ≠ none := by decide +kernel

/-- Two commands waiting behind four replies, the head in transmission, and behind three; and one behind the last item of a read. -/
def twoWaiting : Device :=
  { up with
    arbiter := ⟨List.replicate 4 someReply, some (.reply someReply.bytes)⟩
    responder := ⟨[someCommandRead, ⟨0x10, 2, operandBytes []⟩], false, none⟩ }
def behindRead : Device :=
  { up with responder := ⟨[someCommandRead, ⟨0x10, 2, operandBytes []⟩], false, some ⟨9, .admission, 7, 7⟩⟩ }

theorem witness_oldest_taken :
    twoWaiting.arbiter.inTransmission = some (.reply someReply.bytes) ∧
      twoWaiting.arbiter.replies = someReply :: List.replicate 3 someReply ∧ twoWaiting.responder.reading = none ∧
      twoWaiting.responder.queue = someCommandRead :: [⟨0x10, 2, operandBytes []⟩] ∧ (List.replicate 3 someReply).length = 3 ∧
      someCommandRead.code ≠ 0x10 ∧ someCommandRead.code ≠ 0x13 ∧
      behindRead.responder.reading = some ⟨9, .admission, 7, 7⟩ ∧ behindRead.arbiter.replies.length < 4 ∧
      ({ twoWaiting with arbiter := ⟨List.replicate 3 someReply, none⟩ } : Device).arbiter.replies.length = 3 := by decide +kernel

/-- R154, R161: one freed place takes the oldest command alone; behind the last item of a read both are taken, in their order, and READ STATUS
then finds none waiting. -/
theorem test_oldest_command_first :
    (after .replyTxComplete twoWaiting).responder.queue.map (·.tag) = [2] ∧
      ((after .replyTxComplete twoWaiting).arbiter.replies.drop 3).map (fun r => r.bytes.take 4) = [[0xA0, 0, 1, 0x14]] ∧
      (after .rangeReadNextItem behindRead).arbiter.replies.map (fun r => r.bytes.take 4) =
        [[0xA0, 0, 9, 0x21], [0xA0, 0, 1, 0x14], [0xA0, 0, 2, 0x10]] := by decide +kernel

/-- Buffer 0 SENDING in a share state, with so many records queued and buffer 1 as given. -/
def sendingIn (st : ShareState) (flush : Bool) (n : Nat) (other : FrameBuffer) : Device :=
  let d := crowded 0 n
  { d with
    framer := { d.framer with state := st, pendingFlush := flush, buffers := #v[.sending someFrame, other], timer := none }
    arbiter := { d.arbiter with inTransmission := some (.frame 0 someFrame.bytes) } }

theorem witness_freed_buffer :
    (sendingIn .disabled false 0 .empty).arbiter.inTransmission = some (.frame 0 someFrame.bytes) ∧ (1 : Fin 2) ≠ 0 ∧
      (sendingIn .disabled false 0 .empty).framer.state = .disabled ∧ (sendingIn .enabled false 5 .empty).framer.state = .enabled ∧
      (sendingIn .enabled false 5 .empty).router.shareQueue.length < 6 ∧
      (sendingIn .enabled false 5 .empty).framer.pendingFlush = false ∧ (sendingIn .enabled true 0 .empty).router.shareQueue = [] ∧
      (sendingIn .enabled true 1 (.held someFrame)).framer.buffers[(1 : Fin 2)] ≠ .empty ∧
      (sendingIn .enabled true 1 (.held someFrame)).router.shareQueue ≠ [] ∧
      (sendingIn .enabled true 1 (.held someFrame)).framer.pendingFlush = true ∧
      6 ≤ (sendingIn .enabled false 6 (.held someFrame)).router.shareQueue.length ∧
      (sendingIn .draining false 1 (.held someFrame)).framer.state = .draining ∧
      (sendingIn .draining false 0 (.held someFrame)).framer.state = .draining ∧
      (sendingIn .draining false 0 (.held someFrame)).router.shareQueue = [] ∧
      (sendingIn .draining false 0 (.held someFrame)).framer.buffers[(1 : Fin 2)] ≠ .empty ∧
      (sendingIn .draining false 0 .empty).framer.buffers[(1 : Fin 2)] = .empty ∧
      (sendingIn .draining false 0 .empty).router.shareQueue = [] := by decide +kernel

/-- Sharing with both buffers HELD. -/
def bothHeld : Device :=
  let d := crowded 0 1
  { d with framer := { d.framer with buffers := #v[.held someFrame, .held someFrame], heldOrder := [0, 1] } }

theorem witness_pacer_and_flush :
    sharing.framer.state = .enabled ∧ sharing.framer.timer = some 0 ∧ sharing.router.shareQueue = [] ∧ sharing.Ready ∧
      bothHeld.framer.state = .enabled ∧ bothHeld.framer.timer = some 0 ∧ bothHeld.Ready ∧ bothHeld.router.shareQueue ≠ [] ∧
      (∀ c : Fin 2, bothHeld.framer.buffers[c] ≠ .empty) ∧
      (crowded 0 7).framer.state = .enabled ∧ (crowded 0 7).framer.timer = some 0 ∧ (crowded 0 7).Ready ∧
      (crowded 0 7).router.shareQueue ≠ [] ∧ (crowded 0 7).framer.buffers[(0 : Fin 2)] = .empty ∧
      (∀ c : Fin 2, c < 0 → (crowded 0 7).framer.buffers[c] ≠ .empty) := by decide +kernel

/-- A notice queue with one entry, with its level at 0, with 16 entries, and with a pulse running. -/
def oneNotice : NoticeQueue := NoticeQueue.reset.post .penBound (some 11)
def silenced : NoticeQueue := { oneNotice with levels := oneNotice.levels.set 4 0 }
def sixteen : NoticeQueue :=
  { NoticeQueue.reset with
    entries := (List.finRange 16).map fun i => ⟨.protectedBlock, some (i.castLE (by omega)), 1, 1, i.val⟩, arrivals := 16,
    line := .asserted }

theorem witness_posts :
    silenced.levels[kindNo .penBound] = 0 ∧ oneNotice.levels[kindNo .penBound] ≠ 0 ∧
      (∃ e ∈ oneNotice.entries, e.kind = .penBound ∧ e.subject = some 11) ∧
      ¬(∃ e ∈ oneNotice.entries, e.kind = .penBound ∧ e.subject = some 0) ∧ oneNotice.entries.length < 16 ∧ oneNotice.Sound ∧
      ¬(∃ e ∈ sixteen.entries, e.kind = .penBound ∧ e.subject = some 0) ∧ 16 ≤ sixteen.entries.length ∧ sixteen.Sound := by
  decide +kernel

theorem witness_ack :
    ({ up with notices := oneNotice } : Device).Ready ∧ oneNotice.Sound ∧
      (⟨.penBound, some 11, 1, 1, 0⟩ : NoticeEntry) ∈ oneNotice.entries ∧
      ({ oneNotice with line := .pulsing } : NoticeQueue).line = .pulsing := by decide +kernel

theorem witness_out_of_turn :
    (up.contact 0).presence ≠ some 0 ∧ (up.contact 0).liftHold ≠ some 0 ∧ up.framer.timer ≠ some 0 ∧ up.notices.line ≠ .pulsing ∧
      up.router.overlayQueue = [] ∧ up.router.overlayTx = none ∧ up.arbiter.replies = [] ∧ up.framer.heldOrder = [] ∧
      up.arbiter.inTransmission = none ∧ up.responder.reading = none ∧ (fullWith 9).overlayTx ≠ none ∧
      replying.arbiter.inTransmission ≠ none := by decide +kernel

theorem witness_pen_table_writes :
    (penIn .hover).Ready ∧ ((penIn .hover).slot 11).binding = .bound ∧ ((penIn .hover).slot 11).captureArmed = false ∧
      (armed .capture 1).Ready ∧ ((armed .capture 1).slot 11).captureArmed = true ∧
      ((armed .capture 1).contact 11).state = .capture := by decide +kernel

theorem witness_freed_slot :
    (drawing .inking).Ready ∧ ((drawing .inking).slot 11).binding = .bound ∧ ((drawing .inking).context 11).isOpen = true ∧
      ((drawing .inking).slot 0).binding = .free ∧ ((penIn .hover).context 11).isOpen = false := by decide +kernel

theorem witness_apply :
    up.Ready ∧ up.zones.locked = false ∧ up.zones.apply = .idle ∧ up.zones.activeBank.bindings = 0 ∧ (drawing .inking).Ready ∧
      (drawing .inking).zones.locked = false ∧ (drawing .inking).zones.apply = .idle ∧
      (drawing .inking).zones.activeBank.bindings ≠ 0 := by decide +kernel

/-- The stroke bound to the bank that an APPLY has set retiring. -/
def retiring : Device :=
  { drawing .inking with zones := { (drawing .inking).zones with active := .b, generation := 1, apply := .retiring } }

theorem witness_retire_now :
    up.Ready ∧ up.zones.locked = false ∧ up.zones.apply = .idle ∧ retiring.Ready ∧ retiring.zones.locked = false ∧
      retiring.zones.apply = .retiring ∧ retiring.SlotsSound ∧ retiring.BanksSound ∧ (retiring.context 11).isOpen = true ∧
      (retiring.context 11).generation ≠ retiring.zones.generation ∧ (retiring.context 0).isOpen = false := by decide +kernel

/-- The identity written, sharing still off. -/
def named : Device := { up with framer := { up.framer with written := true } }

theorem witness_setting_commands :
    up.Ready ∧ up.framer.written = false ∧ named.Ready ∧ named.framer.state = .disabled ∧ named.framer.written = true ∧
      sharing.Ready ∧ sharing.framer.state = .enabled ∧ up.framer.state ≠ .enabled ∧ (7 : BitVec 3) ≠ 0 := by decide +kernel

/-- Sharing with a share-live stroke. -/
def shareLive : Device := { bothLive with framer := sharing.framer }

theorem witness_share_disable :
    up.Ready ∧ up.framer.state ≠ .enabled ∧ shareLive.Ready ∧ shareLive.framer.state = .enabled ∧ shareLive.IdsSound ∧
      sharing.Ready ∧ sharing.IdsSound ∧ sharing.router.shareQueue = [] := by decide +kernel

theorem witness_single_reads : up.Ready ∧ knownCode 0xFF = false := by decide +kernel

/-- Three replies in the queue, so that a read of two items stops after one; and a read in hand. -/
def threeReplies : Device := { up with arbiter := ⟨List.replicate 3 someReply, none⟩ }
def readingZone (st : Bool) : Device :=
  { up with
    responder := ⟨[], false, some ⟨1, .zone true, 16, 16⟩⟩
    zones := { up.zones with apply := if st then .retiring else .idle } }

theorem witness_range_reads :
    threeReplies.Ready ∧ (0 : Byte).toNat ≤ (7 : Byte).toNat ∧ (7 : Byte).toNat ≤ 7 ∧ (3 : Byte).toNat ≤ 3 ∧ (11 : Byte).toNat ≤ 11 ∧
      (16 : Byte).toNat ≤ 16 ∧ (2 : Byte) ≤ 2 ∧ threeReplies.zones.apply = .idle ∧ (4 : BitVec 3) ≤ 4 ∧
      (readingZone true).responder.reading = some ⟨1, .zone true, 16, 16⟩ ∧ (readingZone true).arbiter.replies.length < 4 ∧
      (readingZone true).responder.queue = [] ∧ (readingZone true).zones.apply = .retiring ∧
      (readingZone false).zones.apply = .idle ∧ (∀ h : BitVec 3, ReadTarget.zone true ≠ .counters h true) := by decide +kernel

/-- A clearing read of the ZONE group in hand, its last item still to come. -/
def clearing : Device :=
  { up with
    responder := ⟨[], false, some ⟨1, .counters 2 true, 4, 4⟩⟩
    zones := { up.zones with bankA := { up.zones.bankA with blocked := Vector.replicate 17 7 } } }

theorem witness_clearing_read :
    clearing.responder.reading = some ⟨1, .counters 2 true, 4, 4⟩ ∧ clearing.arbiter.replies.length < 4 ∧
      clearing.responder.queue = [] ∧ 4 * 4 < (clearing.groupCounters 2).length := by decide +kernel

/-- R163: the last item of the ZONE group clears the open area's counter and no other. -/
theorem test_clearing_item :
    (after .rangeReadNextItem clearing).zones.bankA.blocked.toList = List.replicate 16 7 ++ [0] ∧
      (after .rangeReadNextItem clearing).responder.reading = none := by decide +kernel

theorem witness_clock_and_counters :
    (penIn .hover).Ready ∧ ((penIn .hover).slot 11).binding = .bound ∧ ((penIn .hover).slot 0).binding = .free := by decide +kernel

theorem witness_restart : (drawing .inking).Ready := by decide +kernel

/-- A locked layout, in RETIRING and not. -/
def locked : Device := { up with zones := { up.zones with locked := true } }

theorem witness_refusals :
    up.Ready ∧ (8 ≤ (8 : BitVec 4).toNat) ∧ ((1 : Byte) < 2) ∧ (7 < (8 : Byte).toNat) ∧ ((2 : Byte) < 3) ∧ ((1 : BitVec 2) < 2) ∧
      ((4 : BitVec 3) < 5) ∧ (12 ≤ (12 : BitVec 4).toNat) ∧ (0 : BitVec 4) = BitVec.ofNat 4 (0 : Slot).val ∧
      (up.slot 0).binding = .free ∧ 16 ≤ (16 : BitVec 5).toNat ∧ locked.Ready ∧ locked.zones.locked = true ∧ (15 : BitVec 5).toNat < 16 ∧
      retiring.Ready ∧ retiring.zones.apply = .retiring ∧ retiring.zones.locked = false ∧ ¬((16 : Byte) < 0 ∨ 16 < (16 : Byte).toNat) ∧
      (sendingIn .draining false 1 .empty).Ready ∧ (sendingIn .draining false 1 .empty).framer.state = .draining ∧
      up.framer.state = .disabled ∧ up.framer.written = false ∧ named.Ready ∧ named.framer.written = true ∧
      13 ≤ (13 : BitVec 4).toNat ∧ 17 ≤ (17 : BitVec 5).toNat ∧ (17 : BitVec 5) ≠ 31 ∧ (12 : BitVec 4).toNat < 13 ∧
      (∀ e ∈ up.notices.entries, (kindNo e.kind).val ≠ (12 : BitVec 4).toNat ∨ subjectNo e.subject ≠ (31 : BitVec 5).toNat) := by
  decide +kernel

/-- Eight commands waiting behind a read in hand, and seven behind a full reply queue. -/
def eightWaiting : Device := { up with responder := ⟨List.replicate 8 someCommandRead, false, some ⟨1, .admission, 1, 7⟩⟩ }
def sevenWaiting : Device :=
  { up with responder := ⟨List.replicate 7 someCommandRead, false, none⟩, arbiter := ⟨List.replicate 4 someReply, none⟩ }

theorem witness_command_queue :
    up.receiver.link = .up ∧ classify (encodeCommandCell someCommandRead) = .command someCommandRead ∧ up.Ready ∧
      8 ≤ eightWaiting.responder.queue.length ∧ eightWaiting.receiver.link = .up ∧ 4 ≤ sevenWaiting.arbiter.replies.length ∧
      sevenWaiting.responder.queue.length < 8 ∧ sevenWaiting.receiver.link = .up ∧ ¬sevenWaiting.Ready ∧
      encodeCommand (.readTime 1) = some someCommandRead := by decide +kernel

theorem witness_command_round_trip :
    (Instr.ack 0xFFFF 15 31).wellFormed = true ∧ encodeCommand (.ack 0xFFFF 15 31) = some ⟨0x61, 0xFFFF, operandBytes [15, 31]⟩ ∧
      (Instr.unknownCommand 0 1).wellFormed = true ∧ encodeCommand (.unknownCommand 0 1) = some ⟨0, 1, operandBytes []⟩ := by
  decide +kernel

theorem witness_cells :
    up.receiver.link = .up ∧ (Instr.readTime 1).wellFormed = true ∧ encodeCommand (.readTime 1) = some someCommandRead := by
  decide +kernel

/-- One state for the invariants: a stroke open and live on the overlay, a step waiting, and its next state. -/
def running : State :=
  ⟨{ shareLive with
      framer := { shareLive.framer with timer := some 5 }
      contacts := notDue.contacts },
    [.millisecondTick]⟩

theorem witness_invariants :
    step running = .next ⟨running.dev.millisecond, []⟩ ∧ running.dev.notices.Sound ∧ running.dev.router.Sound ∧ running.dev.QueuesSound ∧
      running.dev.FramesSound ∧ running.dev.SlotsSound ∧ running.dev.PensSound ∧ running.dev.IdsSound :=
  ⟨rfl, by decide +kernel, by decide +kernel, by decide +kernel, by decide +kernel, by decide +kernel, by decide +kernel,
    by decide +kernel⟩

theorem witness_invariants_of_strokes :
    running.dev.BanksSound ∧ running.dev.PermitsSound ∧ running.dev.DeliveriesSound ∧ running.dev.ShareSound ∧
      running.dev.FiltersSound ∧ running.dev.SettingsSound ∧ running.dev.WidthsSound :=
  ⟨by decide +kernel, by decide +kernel, by decide +kernel, by decide +kernel, by decide +kernel, by decide +kernel,
    by decide +kernel⟩

/-- A locked layout under a written identity. -/
def lockedNamed : Device := { locked with framer := named.framer }

theorem witness_lock_and_identity :
    exec .millisecondTick (at' lockedNamed) = .next (at' lockedNamed.millisecond) ∧ isHardReset .millisecondTick = false ∧
      lockedNamed.zones.locked = true ∧ lockedNamed.framer.written = true := ⟨rfl, rfl, rfl, rfl⟩

theorem witness_layout_and_clock :
    exec (.lockLayout 1) (at' up) = .next (at' (Device.commandStep (.lockLayout 1) (runLockLayout 1) up)) ∧
      (Instr.lockLayout 1).wellFormed = true ∧ up.responder.queue = [] ∧ mayMoveLayout (.lockLayout 1) = false ∧
      mayMoveClock (.lockLayout 1) = false := ⟨rfl, rfl, rfl, rfl, rfl⟩

end Sys2Proof.Tests
end

section
/-! SUPPORT. What leaves the session clock and the layout in force alone, said once: `Steady d e` for the operations of the pens, the contact
units, the strokes and the router, which leave the Cell Receiver alone too, and `Still d e` for the commands. -/

namespace Sys2Proof.Machine

/-- The bank exchange, its generation and the layout in force (R66). -/
def ZoneTable.inForce (z : ZoneTable) : BankName × Byte × Vector Zone 16 × ZoneRules := (z.active, z.generation, z.layout)

/-- Between `d` and `e` neither the session clock nor what is in force has moved. -/
def Device.Still (d e : Device) : Prop := e.clock = d.clock ∧ e.zones.inForce = d.zones.inForce

/-- Neither has the Cell Receiver. -/
def Device.Steady (d e : Device) : Prop := e.receiver = d.receiver ∧ d.Still e

/-- What is in force lies in the active bank's records alone. -/
theorem ZoneTable.inForce_eq {z w : ZoneTable} (ha : w.active = z.active) (hg : w.generation = z.generation)
    (hz : (w.bank z.active).zones = (z.bank z.active).zones) (ho : (w.bank z.active).openArea = (z.bank z.active).openArea) :
    w.inForce = z.inForce := by
  simp [inForce, activeBank, ha, hg, hz, ho]

/-- A bank set with the records it had, its counts aside. -/
theorem ZoneTable.inForce_setBank {z : ZoneTable} {n : BankName} {b : Bank} (hz : b.zones = (z.bank n).zones)
    (ho : b.openArea = (z.bank n).openArea) : (z.setBank n b).inForce = z.inForce := by
  by_cases h : z.active = n
  · exact inForce_eq (setBank_active ..) (setBank_generation ..) (by simp [h, hz]) (by simp [h, ho])
  · exact inForce_eq (setBank_active ..) (setBank_generation ..) (by rw [bank_setBank_ne _ _ h]) (by rw [bank_setBank_ne _ _ h])

/-- A change of the bank that is not in force. -/
theorem ZoneTable.inForce_setBank_other (z : ZoneTable) (b : Bank) : (z.setBank z.other b).inForce = z.inForce := by
  have h : z.active ≠ z.other := (otherBank_ne _).symm
  exact inForce_eq (setBank_active ..) (setBank_generation ..) (by rw [bank_setBank_ne _ _ h]) (by rw [bank_setBank_ne _ _ h])

theorem ZoneTable.completeRetiring_inForce (z : ZoneTable) : z.completeRetiring.inForce = z.inForce :=
  z.inForce_setBank_other z.stagingCopy

/-- RESTART keeps the layout in force. -/
theorem ZoneTable.restarted_inForce (z : ZoneTable) : z.restarted.inForce = z.inForce := by
  have h : ∀ w : ZoneTable, inForce
      { w with
        bankA := { w.bankA with blocked := Vector.replicate 17 0, bindings := 0 }
        bankB := { w.bankB with blocked := Vector.replicate 17 0, bindings := 0 } } = w.inForce := fun w => by
    refine inForce_eq rfl rfl ?_ ?_ <;> cases w.active <;> rfl
  refine (h _).trans ?_
  split
  · exact z.completeRetiring_inForce
  · rfl

namespace Device

theorem Still.refl (d : Device) : d.Still d := ⟨rfl, rfl⟩

theorem Still.trans {d e f : Device} (h : d.Still e) (k : e.Still f) : d.Still f := ⟨k.1.trans h.1, k.2.trans h.2⟩

theorem Still.ite {d a b : Device} {c : Prop} [Decidable c] (h : d.Still a) (k : d.Still b) : d.Still (if c then a else b) := by
  split
  · exact h
  · exact k

theorem Still.reply {d e : Device} (h : d.Still e) (tag : Word16) (code : Byte) (r : Result) (p : List Byte) :
    d.Still (e.reply tag code r p) := h

theorem Still.fold {α : Type} {f : Device → α → Device} (h : ∀ e a, Still e (f e a)) (l : List α) (d : Device) :
    d.Still (l.foldl f d) := by
  induction l generalizing d with
  | nil => exact Still.refl d
  | cons a l ih => exact (h d a).trans (ih _)

theorem Steady.refl (d : Device) : d.Steady d := ⟨rfl, Still.refl d⟩

theorem Steady.trans {d e f : Device} (h : d.Steady e) (k : e.Steady f) : d.Steady f := ⟨k.1.trans h.1, h.2.trans k.2⟩

theorem Steady.ite {d a b : Device} {c : Prop} [Decidable c] (h : d.Steady a) (k : d.Steady b) : d.Steady (if c then a else b) := by
  split
  · exact h
  · exact k

theorem Steady.still {d e : Device} (h : d.Steady e) : d.Still e := h.2

/-! ## Records, zones and the router -/

theorem setSlot_steady (i : Slot) (p : PenSlot) (d : Device) : d.Steady (d.setSlot i p) := ⟨rfl, rfl, rfl⟩
theorem setContact_steady (i : Slot) (c : Contact) (d : Device) : d.Steady (d.setContact i c) := ⟨rfl, rfl, rfl⟩
theorem setContext_steady (i : Slot) (c : StrokeContext) (d : Device) : d.Steady (d.setContext i c) := ⟨rfl, rfl, rfl⟩
theorem setFilter_steady (i : Slot) (v : FilterValue) (d : Device) : d.Steady (d.setFilter i v) := ⟨rfl, rfl, rfl⟩
theorem post_steady (k : NoticeKind) (j : Subject) (d : Device) : d.Steady (d.post k j) := ⟨rfl, rfl, rfl⟩

/-- What router, framer and notices do moves nothing else. -/
theorem Routed.steady {d e : Device} (h : d.Routed e) : d.Steady e := by
  rw [h]
  exact Steady.refl d

/-- A change of the zone table that keeps what is in force. -/
theorem zones_steady {z : ZoneTable} {d : Device} (h : z.inForce = d.zones.inForce) : d.Steady { d with zones := z } := ⟨rfl, rfl, h⟩

theorem bindStroke_steady (d : Device) : d.Steady d.bindStroke := zones_steady (ZoneTable.inForce_setBank rfl rfl)

theorem releaseStroke_steady (g : Byte) (d : Device) : d.Steady (d.releaseStroke g) := by
  unfold releaseStroke
  extract_lets n b z
  have hz : z.inForce = d.zones.inForce := ZoneTable.inForce_setBank rfl rfl
  exact Steady.ite (zones_steady (z.completeRetiring_inForce.trans hz)) (zones_steady hz)

theorem blockSlot_steady (i : Slot) (z : ZoneNo) (d : Device) : d.Steady (d.blockSlot i z) := by
  refine Steady.ite (((setContact_steady i _ d).trans (zones_steady ?_)).trans (post_steady _ _ _)) (setContact_steady i _ d)
  exact ZoneTable.inForce_setBank rfl rfl

/-! ## Strokes -/

theorem closeStroke_steady (i : Slot) (reason : CloseReason) (time : Word32) (d : Device) : d.Steady (d.closeStroke i reason time) := by
  unfold closeStroke
  extract_lets k v d1 d2 d3
  have h2 : d.Steady d2 := (routeClose_routed _ _ _ _ _ d).steady
  exact Steady.ite ((h2.trans (releaseStroke_steady _ _)).trans (setContext_steady i _ _)) (Steady.refl d)

theorem openStroke_steady (i : Slot) (q : OpenRequest) (d : Device) : d.Steady (d.openStroke i q) := by
  have h : d.Steady (d.beforeRouting i q) :=
    Steady.trans (e := { d.setContext i _ with strokes := _ }) ⟨rfl, rfl, rfl⟩ (bindStroke_steady _)
  exact h.trans (routeOpen_routed _ _ _).steady

theorem emitSeg_steady (i : Slot) (p : Point) (w : Byte) (time : Word32) (d : Device) : d.Steady (d.emitSeg i p w time) :=
  (setContext_steady i _ d).trans (routeSeg_routed i _ _).steady

theorem continueStroke_steady (i : Slot) (s : Sample) (d : Device) : d.Steady (d.continueStroke i s) :=
  Steady.ite ((setFilter_steady i _ d).trans (emitSeg_steady i _ _ _ _)) (setFilter_steady i _ d)

theorem splitAllowed_steady (i : Slot) (s : Sample) (z : ZoneNo) (d : Device) : d.Steady (d.splitAllowed i s z) := by
  unfold splitAllowed
  extract_lets d1 p k d2 d3
  have h1 : d.Steady d1 := setFilter_steady i _ d
  have h2 : d.Steady d2 := Steady.ite h1 (h1.trans (emitSeg_steady i _ _ _ _))
  exact (h2.trans (closeStroke_steady i _ _ _)).trans (openStroke_steady i _ _)

/-! ## The contact unit -/

theorem openFrom_steady (i : Slot) (s : Sample) (z : ZoneNo) (d : Device) : d.Steady (d.openFrom i s z) :=
  (openStroke_steady i _ d).trans (setContact_steady i _ _)

theorem completeCapture_steady (i : Slot) (s : Sample) (d : Device) : d.Steady (d.completeCapture i s) := ⟨rfl, rfl, rfl⟩

theorem contactBegin_steady (i : Slot) (s : Sample) (d : Device) : d.Steady (d.contactBegin i s) := by
  unfold contactBegin
  extract_lets d1 zone count c1 d2
  have h1 : d.Steady d1 := setFilter_steady i _ d
  have h2 : d.Steady d2 := h1.trans (setContact_steady i _ _)
  exact Steady.ite (h1.trans (blockSlot_steady i _ _))
    (Steady.ite (Steady.ite (h2.trans (completeCapture_steady i s _)) h2)
      (Steady.ite (h1.trans (openFrom_steady i s _ _)) (h1.trans (setContact_steady i _ _))))

theorem hoverSample_steady (i : Slot) (s : Sample) (d : Device) : d.Steady (d.hoverSample i s) :=
  Steady.ite (Steady.refl d) (contactBegin_steady i s d)

theorem settlingSample_steady (i : Slot) (s : Sample) (d : Device) : d.Steady (d.settlingSample i s) := by
  unfold settlingSample
  extract_lets c0 d1 left c1 d2 zone
  have h2 : d.Steady d2 := (setFilter_steady i _ d).trans (setContact_steady i _ _)
  exact Steady.ite (setContact_steady i _ d)
    (Steady.ite h2 (Steady.ite (h2.trans (openFrom_steady i s _ _)) (h2.trans (blockSlot_steady i _ _))))

theorem endChange_steady (i : Slot) (s : Sample) (d : Device) : d.Steady (d.endChange i s) :=
  have h : d.Steady _ := (closeStroke_steady i .endChange s.stamp d).trans (setFilter_steady i _ _)
  Steady.ite (h.trans (openFrom_steady i _ _ _)) (h.trans (blockSlot_steady i _ _))

theorem inkSample_steady (i : Slot) (s : Sample) (d : Device) : d.Steady (d.inkSample i s) :=
  have h : d.Steady (d.splitRefused i s) := (setFilter_steady i _ d).trans (closeStroke_steady i _ _ _)
  Steady.ite (endChange_steady i s d)
    (Steady.ite (continueStroke_steady i s d) (Steady.ite (splitAllowed_steady i s _ d) (h.trans (blockSlot_steady i _ _))))

theorem lift_steady (i : Slot) (s : Sample) (d : Device) : d.Steady (d.lift i s) :=
  have h : d.Steady _ := setContact_steady i { d.contact i with liftTime := s.stamp } d
  Steady.ite ((h.trans (closeStroke_steady i _ _ _)).trans (setContact_steady i _ _)) (h.trans (setContact_steady i _ _))

theorem holdingSample_steady (i : Slot) (s : Sample) (d : Device) : d.Steady (d.holdingSample i s) :=
  Steady.ite (Steady.refl d) ((setContact_steady i _ d).trans (inkSample_steady i s _))

theorem blockedSample_steady (i : Slot) (s : Sample) (d : Device) : d.Steady (d.blockedSample i s) :=
  Steady.ite (setContact_steady i _ d) (Steady.ite ((setFilter_steady i _ d).trans (openFrom_steady i s _ _)) (Steady.refl d))

theorem captureSample_steady (i : Slot) (s : Sample) (d : Device) : d.Steady (d.captureSample i s) := by
  unfold captureSample
  refine Steady.ite (setContact_steady i _ d) ?_
  split
  · exact Steady.refl d
  · exact Steady.ite ((setContact_steady i _ d).trans (completeCapture_steady i s _)) (setContact_steady i _ d)

theorem takeSample_steady (i : Slot) (s : Sample) (d : Device) : d.Steady (d.takeSample i s) := by
  have hp : d.Steady (d.restartPresence i) := setContact_steady i _ d
  unfold takeSample
  split
  case h_1 => exact Steady.refl d
  case h_2 => exact ((setContact_steady i _ d).trans (setContact_steady i _ _)).trans (hoverSample_steady i s _)
  case h_3 => exact hp.trans (hoverSample_steady i s _)
  case h_4 => exact hp.trans (settlingSample_steady i s _)
  case h_5 => exact hp.trans (Steady.ite (lift_steady i s _) (inkSample_steady i s _))
  case h_6 => exact hp.trans (holdingSample_steady i s _)
  case h_7 => exact hp.trans (blockedSample_steady i s _)
  case h_8 => exact hp.trans (captureSample_steady i s _)

theorem takeEnter_steady (i : Slot) (d : Device) : d.Steady (d.takeEnter i) := by
  unfold takeEnter
  split
  · exact Steady.refl d
  · exact (setContact_steady i _ d).trans (setContact_steady i _ _)
  · exact setContact_steady i _ d

theorem goAway_steady (i : Slot) (d : Device) : d.Steady (d.goAway i) := setContact_steady i _ d

theorem takeLeave_steady (i : Slot) (stamp : Word32) (d : Device) : d.Steady (d.takeLeave i stamp) := by
  unfold takeLeave
  split
  · exact Steady.refl d
  · exact Steady.refl d
  · exact (closeStroke_steady i _ _ d).trans (goAway_steady i _)
  · exact (closeStroke_steady i _ _ d).trans (goAway_steady i _)
  · exact goAway_steady i d

theorem dropRange_steady (i : Slot) (reason : CloseReason) (d : Device) : d.Steady (d.dropRange i reason) := by
  unfold dropRange
  split
  · exact Steady.refl d
  · exact Steady.refl d
  · exact (closeStroke_steady i _ _ d).trans (goAway_steady i _)
  · exact (closeStroke_steady i _ _ d).trans (goAway_steady i _)
  · exact goAway_steady i d

theorem retireStroke_steady (i : Slot) (d : Device) : d.Steady (d.retireStroke i) := by
  have h : d.Steady (d.closeStroke i .retired d.clock) := closeStroke_steady i _ _ d
  unfold retireStroke
  extract_lets d1
  split
  · exact h.trans (setContact_steady i _ _)
  · exact h.trans (setContact_steady i _ _)
  · exact h

/-! ## The pen table -/

theorem freeSlot_steady (i : Slot) (d : Device) : d.Steady (d.freeSlot i) := ⟨rfl, rfl, rfl⟩

theorem bindSlot_steady (i : Slot) (t : Word24) (l : Lane) (a : Admission) (stamp : Word32) (d : Device) :
    d.Steady (d.bindSlot i t l a stamp) := ⟨rfl, rfl, rfl⟩

/-- A bind attempt, whatever its end. -/
theorem bindAttempt_steady (t : Word24) (l : Lane) (stamp : Word32) (d : Device) : d.Steady (d.bindAttempt t l stamp).2 := by
  unfold bindAttempt chooseSlot
  split
  · exact ⟨rfl, rfl, rfl⟩
  · split
    · exact ⟨rfl, rfl, rfl⟩
    · next i e h =>
      have he : d.Steady e := by
        split at h
        · cases h
          exact Steady.refl d
        · split at h
          · cases h
            exact ⟨rfl, rfl, rfl⟩
          · cases h
      exact he.trans (bindSlot_steady i t l _ stamp e)

theorem penSample_steady (l : Lane) (s : Sample) (d : Device) : d.Steady (d.penSample l s) := by
  have h := bindAttempt_steady s.fields.transducer l s.stamp d
  unfold penSample
  split
  · exact (setSlot_steady _ _ d).trans (takeSample_steady _ s _)
  · generalize d.bindAttempt s.fields.transducer l s.stamp = r at h ⊢
    obtain ⟨_ | i, e⟩ := r
    · exact h
    · exact h.trans (takeSample_steady i s e)

theorem penProximity_steady (l : Lane) (t : Word24) (ev : ProximityEvent) (stamp : Word32) (d : Device) :
    d.Steady (d.penProximity l t ev stamp) := by
  unfold penProximity
  split
  · exact (setSlot_steady _ _ d).trans (takeEnter_steady _ _)
  · exact (setSlot_steady _ _ d).trans (takeLeave_steady _ stamp _)
  · exact bindAttempt_steady t l stamp d
  · exact Steady.refl d

/-! ## Timers -/

theorem presenceExpires_steady (i : Slot) (d : Device) : d.Steady (d.presenceExpires i) :=
  Steady.ite (dropRange_steady i _ d) (Steady.refl d)

theorem liftHoldExpires_steady (i : Slot) (d : Device) : d.Steady (d.liftHoldExpires i) :=
  Steady.ite ((closeStroke_steady i _ _ d).trans (setContact_steady i _ _)) (Steady.refl d)

theorem slotExpires_steady (i : Slot) (d : Device) : d.Steady (d.slotExpires i) :=
  (liftHoldExpires_steady i d).trans (presenceExpires_steady i _)

theorem flushTrigger_steady (d : Device) : d.Steady d.flushTrigger :=
  Steady.ite (Steady.refl d) (Steady.ite (buildFrame_framed d).routed.steady ⟨rfl, rfl, rfl⟩)

theorem pacerExpires_steady (d : Device) : d.Steady d.pacerExpires :=
  Steady.ite (Steady.trans (flushTrigger_steady d) ⟨rfl, rfl, rfl⟩) (Steady.refl d)

theorem takeDue_still (d : Device) : d.Still d.takeDue :=
  (Still.fold (fun e i => (slotExpires_steady i e).still) allSlots d).trans (pacerExpires_steady _).still

end Device

end Sys2Proof.Machine
end

section
/-! SUPPORT. The rows of the opcode table, said once: a command of the host is a command step that executes one `runCommand`, and what each
command leaves of the session clock and the layout in force. -/

namespace Sys2Proof.Machine

/-! ## What a command row executes -/

/-- The command that a row executes: its own, but for a row UNKNOWN_COMMAND, whose code decides (log entry 7). -/
def executed (i : Instr) : Instr :=
  match i with
  | .unknownCommand code t => decodeCommand ⟨code, t, operandBytes []⟩
  | i => i

/-- A command row is a command step. -/
theorem exec_of_command {i : Instr} {c : Command} (h : encodeCommand i = some c) (s : State) :
    exec i s = s.onDevice (Device.commandStep i (runCommand (executed i))) := by
  cases i <;> cases h <;> rfl

/-- A code that names no command decodes to UNKNOWN_COMMAND, whatever comes with it (R159). -/
theorem decodeCommand_of_unknown {code : Byte} (h : knownCode code = false) (t : Word16) (o : Vector Byte 10) :
    decodeCommand ⟨code, t, o⟩ = .unknownCommand code t := by
  have hk : code = BitVec.ofNat 8 code.toNat := by simp
  unfold decodeCommand
  dsimp only
  generalize code.toNat = k at hk ⊢
  split
  case h_42 => rfl
  all_goals
    rw [hk] at h
    exact nomatch h

/-- A row of the spec executes its own command. -/
theorem executed_of_wellFormed {i : Instr} (h : i.wellFormed = true) : executed i = i := by
  cases i with
  | unknownCommand code t => exact decodeCommand_of_unknown (by simpa [Instr.wellFormed] using h) t _
  | _ => rfl

/-- With no command waiting, a command step executes the command, or leaves it waiting, or does nothing. -/
theorem Device.commandStep_of_no_queue {d : Device} (h : d.responder.queue = []) (i : Instr) (run : Device → Device) :
    d.commandStep i run = run d ∨ d.commandStep i run = d ∨
      ∃ c, d.commandStep i run = { d with responder := { d.responder with queue := [c] } } := by
  unfold commandStep
  by_cases hm : d.mayTake = true
  · exact .inl (by simp [hm, h])
  · rw [if_neg (by simp [hm])]
    cases encodeCommand i with
    | none => exact .inr (.inl rfl)
    | some c =>
      refine .inr (.inr ⟨c, ?_⟩)
      have ht := takingTest_of_full (d := { d with responder := { d.responder with queue := [c] } }) (Bool.eq_false_iff.mpr hm)
      simp [commandArrives, h, Config.commandCapacity, ht]

/-! ## What the commands leave alone -/

namespace Device

theorem clearItem_still (g : BitVec 3) (n : Nat) (d : Device) : d.Still (d.clearItem g n) := by
  unfold clearItem
  split
  case h_3 =>
    refine ⟨rfl, ZoneTable.inForce_eq rfl rfl ?_ ?_⟩ <;> dsimp only <;> cases d.zones.active <;> rfl
  all_goals exact ⟨rfl, rfl⟩

theorem readItem_still (r : RangeRead) (d : Device) : d.Still (d.readItem r) := by
  unfold readItem clearRead
  refine Still.ite ⟨rfl, rfl⟩ ?_
  split
  · exact Still.trans (clearItem_still _ _ (d.reply _ _ _ _)) ⟨rfl, rfl⟩
  · exact ⟨rfl, rfl⟩

theorem readBurst_still (n : Nat) (d : Device) : d.Still (readBurst n d) := by
  induction n generalizing d with
  | zero => exact Still.refl d
  | succ n ih =>
    unfold readBurst
    split
    · exact Still.refl d
    · exact Still.ite ((readItem_still _ d).trans (ih _)) (Still.refl d)

theorem startRead_still (r : RangeRead) (d : Device) : d.Still (d.startRead r) := readBurst_still _ (d.setReading (some r))

theorem tableRead_still (tag : Word16) (t : ReadTarget) (a b : Byte) (n : Nat) (d : Device) : d.Still (d.tableRead tag t a b n) :=
  Still.ite (startRead_still _ d) ⟨rfl, rfl⟩

theorem nextItem_still (d : Device) : d.Still d.nextItem := by
  unfold nextItem
  split
  · exact Still.refl d
  · exact Still.ite (readItem_still _ d) (Still.refl d)

theorem clearCounters_still (d : Device) : d.Still d.clearCounters := by
  refine ⟨rfl, ZoneTable.inForce_eq rfl rfl ?_ ?_⟩ <;> dsimp only [clearCounters] <;> cases d.zones.active <;> rfl

theorem forceFree_still (i : Slot) (d : Device) : d.Still (d.forceFree i) :=
  ((closeStroke_steady i _ _ d).trans (freeSlot_steady i _)).still

theorem disableSlot_still (i : Slot) (d : Device) : d.Still (d.disableSlot i) :=
  have h : d.Still (if (d.slot i).binding = .bound then d.forceFree i else d) := Still.ite (forceFree_still i d) (Still.refl d)
  h

theorem onBound_still (tag : Word16) (code : Byte) (slot : BitVec 4) {f : Slot → Device → Device} (h : ∀ i e, Still e (f i e))
    (d : Device) : d.Still (d.onBound tag code slot f) := by
  unfold onBound
  split
  · exact ⟨rfl, rfl⟩
  · exact Still.ite ⟨rfl, rfl⟩ (h _ d)

theorem cancelCaptureAt_still (i : Slot) (d : Device) : d.Still (d.cancelCaptureAt i) := by
  unfold cancelCaptureAt
  extract_lets p e
  exact Still.ite (Still.ite ⟨rfl, rfl⟩ ⟨rfl, rfl⟩) (Still.refl d)

theorem buildWhile_steady (least n : Nat) (d : Device) : d.Steady (buildWhile least n d) := (buildWhile_framed least n d).routed.steady

theorem endDraining_steady (d : Device) : d.Steady d.endDraining := Steady.ite ⟨rfl, rfl, rfl⟩ (Steady.refl d)

theorem drain_steady (d : Device) : d.Steady d.drain := (buildWhile_steady 1 2 d).trans (endDraining_steady _)

theorem shareOffClose_steady (d : Device) (i : Slot) : d.Steady (d.shareOffClose i) := by
  unfold shareOffClose
  extract_lets k
  split
  · exact Steady.refl d
  · exact Steady.ite ⟨rfl, rfl, rfl⟩ (Steady.refl d)

theorem disableShare_still (d : Device) : d.Still d.disableShare := by
  have h : ∀ e : Device, e.Still e.shareOff.drain := fun e =>
    (Still.fold (fun e i => (shareOffClose_steady e i).still) allSlots e).trans (drain_steady _).still
  exact h { d with framer := ShareFramer.stopPacer { d.framer with state := .draining, pendingFlush := false } }

theorem writeStaging_still (tag : Word16) (code : Byte) (f : Bank → Bank) (d : Device) : d.Still (d.writeStaging tag code f) :=
  Still.ite ⟨rfl, rfl⟩ (Still.ite ⟨rfl, rfl⟩ ⟨rfl, d.zones.inForce_setBank_other _⟩)

theorem takeFreedBuffer_steady (d : Device) : d.Steady d.takeFreedBuffer := by
  have h : ∀ e : Device, e.Steady e.sixRecordTrigger := fun e => (sixRecordTrigger_framed e).routed.steady
  unfold takeFreedBuffer
  split
  · exact (Steady.ite (buildFrame_framed d).routed.steady (Steady.refl d)).trans (h _)
  · exact drain_steady d
  · exact Steady.refl d

end Device

open Device

theorem runRetireNow_still (t : Word16) (d : Device) : d.Still (runRetireNow t d) := by
  have h : d.Still (d.retiringSlots.foldl retireStroke d) := Still.fold (fun e i => (retireStroke_steady i e).still) _ d
  unfold runRetireNow
  exact Still.ite ⟨rfl, rfl⟩ (Still.ite ⟨rfl, rfl⟩ (h.reply _ _ _ _))

theorem runShareDisable_still (t : Word16) (d : Device) : d.Still (runShareDisable t d) := by
  unfold runShareDisable
  split
  · exact (disableShare_still d).reply _ _ _ _
  · exact ⟨rfl, rfl⟩

theorem runFlush_still (t : Word16) (d : Device) : d.Still (runFlush t d) := by
  unfold runFlush
  split
  · exact (flushTrigger_steady d).still
  · exact ⟨rfl, rfl⟩

theorem runAck_still (t : Word16) (k : BitVec 4) (j : BitVec 5) (d : Device) : d.Still (runAck t k j d) := by
  unfold runAck
  split
  · split <;> exact ⟨rfl, rfl⟩
  · exact ⟨rfl, rfl⟩

theorem runShareEnable_still (t : Word16) (d : Device) : d.Still (runShareEnable t d) := by
  unfold runShareEnable
  split
  · exact ⟨rfl, rfl⟩
  · exact ⟨rfl, rfl⟩
  · exact Still.ite ⟨rfl, rfl⟩ ⟨rfl, rfl⟩

/-- APPLY leaves the session clock alone. -/
theorem runApply_clock (t : Word16) (d : Device) : (runApply t d).clock = d.clock := by
  unfold runApply
  repeat' split
  all_goals rfl

/-- Only APPLY moves what is in force, and only SET TIME the session clock (R15, R66, R69). -/
theorem runCommand_still {i : Instr} (ha : ∀ t, i ≠ .apply t) (hs : ∀ t v, i ≠ .setTime t v) (d : Device) :
    d.Still (runCommand i d) := by
  cases i with
  | apply t => exact absurd rfl (ha t)
  | setTime t v => exact absurd rfl (hs t v)
  | restart t => exact ⟨rfl, d.zones.restarted_inForce⟩
  | clearCounters t => exact clearCounters_still d
  | readCounters t g c => exact Still.ite ⟨rfl, rfl⟩ (startRead_still _ d)
  | readAdmission t a b => exact tableRead_still _ _ _ _ _ d
  | readProfile t a b => exact tableRead_still _ _ _ _ _ d
  | readCurve t a b => exact tableRead_still _ _ _ _ _ d
  | readSlot t a b p => exact Still.ite ⟨rfl, rfl⟩ (tableRead_still _ _ _ _ _ d)
  | readStroke t a b p => exact Still.ite ⟨rfl, rfl⟩ (tableRead_still _ _ _ _ _ d)
  | readZone t s a b => exact Still.ite ⟨rfl, rfl⟩ (Still.ite ⟨rfl, rfl⟩ (startRead_still _ d))
  | unbind t i => exact onBound_still t 0x2A i forceFree_still d
  | forceLeave t i => exact onBound_still t 0x2B i (fun i e => (dropRange_steady i .forced e).still) d
  | captureOffset t i x y =>
    exact onBound_still t 0x2C i
      (f := fun i d => d.setSlot i { d.slot i with targetX := x, targetY := y, captureArmed := true }) (fun _ _ => ⟨rfl, rfl⟩) d
  | cancelCapture t i => exact onBound_still t 0x2D i cancelCaptureAt_still d
  | setSlotEnable t i on =>
    show d.Still (runSetSlotEnable t i on d)
    unfold runSetSlotEnable
    split
    · exact ⟨rfl, rfl⟩
    · exact Still.ite ⟨rfl, rfl⟩ (disableSlot_still _ d)
  | retireNow t => exact runRetireNow_still t d
  | shareDisable t => exact runShareDisable_still t d
  | shareEnable t => exact runShareEnable_still t d
  | flush t => exact runFlush_still t d
  | ack t k j => exact runAck_still t k j d
  | writeIdentity t c b => exact Still.ite ⟨rfl, rfl⟩ ⟨rfl, rfl⟩
  | setLineThreshold t l => exact Still.ite ⟨rfl, rfl⟩ ⟨rfl, rfl⟩
  | writeOpenArea t r => exact writeStaging_still _ _ _ d
  | writeZoneRect t z a b c e =>
    show d.Still (runWriteZoneRect t z a b c e d)
    unfold runWriteZoneRect
    split
    · exact ⟨rfl, rfl⟩
    · exact writeStaging_still _ _ _ d
  | writeZoneAttributes t z e r =>
    show d.Still (runWriteZoneAttributes t z e r d)
    unfold runWriteZoneAttributes
    split
    · exact ⟨rfl, rfl⟩
    · exact writeStaging_still _ _ _ d
  | writeAdmission t i e m k a p =>
    show d.Still (runWriteAdmission t i e m k a p d)
    unfold runWriteAdmission
    split <;> exact ⟨rfl, rfl⟩
  | writeSlotParameters t i p a =>
    show d.Still (runWriteSlotParameters t i p a d)
    unfold runWriteSlotParameters
    split <;> exact ⟨rfl, rfl⟩
  | setOffset t i x y =>
    show d.Still (runSetOffset t i x y d)
    unfold runSetOffset
    split <;> exact ⟨rfl, rfl⟩
  | setLevel t k l =>
    show d.Still (runSetLevel t k l d)
    unfold runSetLevel
    split <;> exact ⟨rfl, rfl⟩
  | _ => exact ⟨rfl, rfl⟩

end Sys2Proof.Machine
end

section
/-! The layout in force and the session clock move by their own steps alone (R11, R15, R66, R69). -/

namespace Sys2Proof.Machine

open Device

/-- Between `d` and `e` what is in force and the session clock have moved only where step `i` may move them. -/
def Device.MovedBy (i : Instr) (d e : Device) : Prop :=
  (mayMoveLayout i = false → e.zones.inForce = d.zones.inForce) ∧ (mayMoveClock i = false → e.clock = d.clock)

theorem Device.Still.movedBy {d e : Device} (h : d.Still e) (i : Instr) : d.MovedBy i e := ⟨fun _ => h.2, fun _ => h.1⟩

/-- An execution moves only what its row may move. -/
theorem runCommand_movedBy (i : Instr) (d : Device) : d.MovedBy i (runCommand i d) := by
  by_cases ha : ∃ t, i = .apply t
  · obtain ⟨t, rfl⟩ := ha
    exact ⟨nofun, fun _ => runApply_clock t d⟩
  · by_cases hs : ∃ t v, i = .setTime t v
    · obtain ⟨t, v, rfl⟩ := hs
      exact ⟨fun _ => rfl, nofun⟩
    · exact (runCommand_still (fun t h => ha ⟨t, h⟩) (fun t v h => hs ⟨t, v, h⟩) d).movedBy i

/-- A command row with no command waiting. -/
theorem commandStep_movedBy {i : Instr} {d : Device} (h : d.responder.queue = []) :
    d.MovedBy i (d.commandStep i (runCommand i)) := by
  rcases commandStep_of_no_queue h i (runCommand i) with k | k | ⟨c, k⟩ <;> rw [k]
  · exact runCommand_movedBy i d
  · exact (Still.refl d).movedBy i
  · exact ⟨fun _ => rfl, fun _ => rfl⟩

/-- A cell that carries no command leaves both alone. -/
theorem cellArrives_still {cell : Cell} (h : ∀ c, classify cell ≠ .command c) (d : Device) : d.Still (d.cellArrives cell) := by
  have hl : ∀ l n, d.Still (d.checkSequence l n) := fun l n => Still.ite ⟨rfl, rfl⟩ ⟨rfl, rfl⟩
  unfold cellArrives
  split
  · exact Still.refl d
  · split
    · exact (hl _ _).trans (penSample_steady _ _ _).still
    · exact (hl _ _).trans (penProximity_steady _ _ _ _ _).still
    · next hc => exact absurd hc (h _)
    · exact ⟨rfl, rfl⟩

theorem overlayBegins_still (ready : Bool) (d : Device) : d.Still (d.overlayBegins ready) := by
  unfold overlayBegins
  split <;> exact ⟨rfl, rfl⟩

theorem egressBegins_still (ready : Bool) (d : Device) : d.Still (d.egressBegins ready) := by
  unfold egressBegins frameBegins
  repeat' split
  all_goals exact ⟨rfl, rfl⟩

/-- With no command waiting, the taking test takes none. -/
theorem takingTest_still {d : Device} (h : d.responder.queue = []) : d.Still d.takingTest := by
  rw [takingTest_of_empty h]
  exact Still.refl d

/-- With no command waiting, the end of a reply takes none. -/
theorem replyCompletes_still {d : Device} (h : d.responder.queue = []) : d.Still d.replyCompletes := by
  unfold replyCompletes
  split
  · exact Still.trans (e := { d with arbiter := ⟨d.arbiter.replies.drop 1, none⟩ }) ⟨rfl, rfl⟩ (takingTest_still h)
  · exact Still.refl d

theorem frameCompletes_still (d : Device) : d.Still d.frameCompletes := by
  unfold frameCompletes
  split
  · exact (takeFreedBuffer_steady _).still
  · exact Still.refl d

theorem nextItem_waiting (d : Device) : d.WaitingKept d.nextItem := by
  unfold nextItem
  split
  · rfl
  · exact WaitingKept.ite (readItem_waiting _ d) rfl

/-- With no command waiting, an item takes none. -/
theorem nextItem_takingTest_still {d : Device} (h : d.responder.queue = []) :
    d.Still (if d.responder.reading.isSome then d.nextItem.takingTest else d) :=
  Still.ite ((nextItem_still d).trans (takingTest_still (Eq.trans (nextItem_waiting d) h))) (Still.refl d)

theorem linkFalls_still (d : Device) : d.Still d.linkFalls :=
  Still.trans (e := { d with receiver := { d.receiver with link := .down, ingressReady := false } }) ⟨rfl, rfl⟩
    (Still.fold (fun e i => (dropRange_steady i .lost e).still) allSlots _)

theorem linkRises_still (d : Device) : d.Still d.linkRises := ⟨rfl, rfl⟩

theorem pulseEnds_still (d : Device) : d.Still { d with notices := d.notices.pulseEnds } := ⟨rfl, rfl⟩

theorem overlayCompletes_still (d : Device) : d.Still d.overlayCompletes := Still.ite ⟨rfl, rfl⟩ (Still.refl d)

/-- The tick itself moves the session clock, the contact units' timers and the pacer's. -/
theorem tick_zones (d : Device) : d.tick.zones = d.zones := rfl

theorem millisecond_inForce (d : Device) : d.millisecond.zones.inForce = d.zones.inForce := by
  unfold millisecond
  rw [tick_zones, (takeDue_still d).2]

/-- The device of an outcome. -/
theorem movedBy_of_onDevice {i : Instr} {f : Device → Device} {s t : State} (he : s.onDevice f = .next t)
    (h : s.dev.MovedBy i (f s.dev)) : s.dev.MovedBy i t.dev := by
  cases he
  exact h

/-- An event of the links, lines and timers, with no command waiting. -/
theorem exec_event_movedBy {i : Instr} {s t : State} (h : encodeCommand i = none) (hw : i.wellFormed = true)
    (hq : s.dev.responder.queue = []) (he : exec i s = .next t) : s.dev.MovedBy i t.dev := by
  cases i with
  | hardReset v => exact ⟨nofun, nofun⟩
  | commandCell cell => exact ⟨nofun, nofun⟩
  | millisecondTick => exact movedBy_of_onDevice (f := millisecond) he ⟨fun _ => millisecond_inForce s.dev, nofun⟩
  | linkValidFalls => exact movedBy_of_onDevice he ((linkFalls_still s.dev).movedBy _)
  | linkValidRises => exact movedBy_of_onDevice he ((linkRises_still s.dev).movedBy _)
  | sample cell =>
    have hc : ∀ c, classify cell ≠ .command c := fun c k => by simp [Instr.wellFormed, isSampleCell, k] at hw
    exact movedBy_of_onDevice he ((cellArrives_still hc s.dev).movedBy _)
  | proximity cell =>
    have hc : ∀ c, classify cell ≠ .command c := fun c k => by simp [Instr.wellFormed, isProximityCell, k] at hw
    exact movedBy_of_onDevice he ((cellArrives_still hc s.dev).movedBy _)
  | invalidCell cell =>
    have hc : ∀ c, classify cell ≠ .command c := fun c k => by simp [Instr.wellFormed, isInvalidCell, k] at hw
    exact movedBy_of_onDevice he ((cellArrives_still hc s.dev).movedBy _)
  | presenceExpiry i => exact movedBy_of_onDevice he ((presenceExpires_steady i s.dev).still.movedBy _)
  | liftHoldExpiry i => exact movedBy_of_onDevice he ((liftHoldExpires_steady i s.dev).still.movedBy _)
  | pacerExpiry => exact movedBy_of_onDevice he ((pacerExpires_steady s.dev).still.movedBy _)
  | noticePulseEnd => exact movedBy_of_onDevice (f := fun d => { d with notices := d.notices.pulseEnds }) he ((pulseEnds_still s.dev).movedBy _)
  | overlayTxBegin ready => exact movedBy_of_onDevice he ((overlayBegins_still ready s.dev).movedBy _)
  | overlayTxComplete => exact movedBy_of_onDevice he ((overlayCompletes_still s.dev).movedBy _)
  | shareEgressBegin ready => exact movedBy_of_onDevice he ((egressBegins_still ready s.dev).movedBy _)
  | replyTxComplete => exact movedBy_of_onDevice he ((replyCompletes_still hq).movedBy _)
  | frameTxComplete => exact movedBy_of_onDevice he ((frameCompletes_still s.dev).movedBy _)
  | rangeReadNextItem => exact movedBy_of_onDevice he ((nextItem_takingTest_still hq).movedBy _)
  | _ => cases h

/-- Settles O60: a command row executes its own command or waits, and no other step reaches the exchange; only the tick and SET TIME write
the session clock. -/
theorem layoutAndClockMoveByTheirStepsAlone : Obligations.LayoutAndClockMoveByTheirStepsAlone := by
  intro i s t he hw hq
  have h : s.dev.MovedBy i t.dev := by
    cases hc : encodeCommand i with
    | none => exact exec_event_movedBy hc hw hq he
    | some c =>
      rw [exec_of_command hc, executed_of_wellFormed hw] at he
      exact movedBy_of_onDevice he (commandStep_movedBy hq)
  refine ⟨fun hl => ?_, h.2⟩
  have hz := h.1 hl
  simp only [ZoneTable.inForce, Prod.mk.injEq] at hz
  obtain ⟨ha, hg, hzones, hopen⟩ := hz
  exact ⟨ha, hg, Prod.ext hzones hopen⟩

end Sys2Proof.Machine
end

section
/-! SUPPORT. Events that act on several slots in ascending order (R97): what a fold over the slots leaves at each slot, and what it hands to
the router. -/

namespace Sys2Proof.Machine.Device

/-! ## A fold over the slots -/

/-- The records of slot `i` are the same in `d` and in `e`. -/
def AgreeAt (i : Slot) (d e : Device) : Prop :=
  e.slot i = d.slot i ∧ e.contact i = d.contact i ∧ e.context i = d.context i ∧ e.filter i = d.filter i ∧ e.summary i = d.summary i

theorem AgreeAt.refl (i : Slot) (d : Device) : AgreeAt i d d := ⟨rfl, rfl, rfl, rfl, rfl⟩

theorem AgreeAt.trans {i : Slot} {d e f : Device} (h : AgreeAt i d e) (k : AgreeAt i e f) : AgreeAt i d f := by
  obtain ⟨h1, h2, h3, h4, h5⟩ := h
  obtain ⟨k1, k2, k3, k4, k5⟩ := k
  exact ⟨k1.trans h1, k2.trans h2, k3.trans h3, k4.trans h4, k5.trans h5⟩

theorem AgreeAt.slotSound {i : Slot} {d e : Device} (h : AgreeAt i d e) (k : d.SlotSound i) : e.SlotSound i := by
  obtain ⟨h1, h2, h3, -, -⟩ := h
  unfold SlotSound
  rw [h1, h2, h3]
  exact k

theorem Within.agreeAt {i j : Slot} {d e : Device} (h : d.Within i e) (hj : j ≠ i) : AgreeAt j d e := h.1 j hj

theorem SurroundingsKept.refl (d : Device) : d.SurroundingsKept d := (Within.refl 0 d).2

theorem SurroundingsKept.trans {d e f : Device} (h : d.SurroundingsKept e) (k : e.SurroundingsKept f) : d.SurroundingsKept f := by
  obtain ⟨a1, a2, a3, a4, a5, a6, a7, a8, a9, a10, a11⟩ := h
  obtain ⟨b1, b2, b3, b4, b5, b6, b7, b8, b9, b10, b11⟩ := k
  exact ⟨b1.trans a1, b2.trans a2, b3.trans a3, b4.trans a4, b5.trans a5, b6.trans a6, b7.trans a7, b8.trans a8, b9.trans a9,
    b10.trans a10, b11.trans a11⟩

section Fold

variable {g : Device → Slot → Device}

/-- What every step of a fold keeps, the fold keeps. -/
theorem fold_keeps {β : Type} {f : Device → β} (h : ∀ e i, f (g e i) = f e) (l : List Slot) (d : Device) :
    f (l.foldl g d) = f d := by
  induction l generalizing d with
  | nil => rfl
  | cons i l ih => exact (ih _).trans (h d i)

theorem fold_surroundings (hg : ∀ e i, Within i e (g e i)) (l : List Slot) (d : Device) : d.SurroundingsKept (l.foldl g d) := by
  induction l generalizing d with
  | nil => exact SurroundingsKept.refl d
  | cons i l ih => exact (hg d i).2.trans (ih _)

/-- A slot that the fold does not come to is left alone. -/
theorem fold_agreeAt_of_notMem (hg : ∀ e i, Within i e (g e i)) {i : Slot} {l : List Slot} (h : i ∉ l) (d : Device) :
    AgreeAt i d (l.foldl g d) := by
  induction l generalizing d with
  | nil => exact AgreeAt.refl i d
  | cons j l ih =>
    obtain ⟨hj, hl⟩ := not_or.mp (mt List.mem_cons.mpr h)
    exact ((hg d j).agreeAt hj).trans (ih hl _)

/-- A slot that the fold comes to is left as its own step leaves it, from a device in which it was still as before the fold. -/
theorem fold_agreeAt_of_mem (hg : ∀ e i, Within i e (g e i)) {i : Slot} {l : List Slot} (hl : l.Nodup) (h : i ∈ l) (d : Device) :
    ∃ e, AgreeAt i d e ∧ d.SurroundingsKept e ∧ AgreeAt i (g e i) (l.foldl g d) := by
  induction l generalizing d with
  | nil => cases h
  | cons j l ih =>
    obtain ⟨hj, hl⟩ := List.nodup_cons.mp hl
    rcases List.mem_cons.mp h with rfl | h
    · exact ⟨d, AgreeAt.refl i d, SurroundingsKept.refl d, fold_agreeAt_of_notMem hg hj _⟩
    · obtain ⟨e, ha, hs, hr⟩ := ih hl h (g d j)
      have hij : i ≠ j := fun k => hj (k ▸ h)
      exact ⟨e, ((hg d j).agreeAt hij).trans ha, (hg d j).2.trans hs, hr⟩

end Fold

theorem mem_allSlots (i : Slot) : i ∈ allSlots := List.mem_finRange i

theorem allSlots_nodup : allSlots.Nodup := List.nodup_finRange 12

/-! ## What is handed to the router -/

/-- The router and the framer hold the same in `d` and in `e`, and see the same clock and generation. -/
def SameOutput (d e : Device) : Prop :=
  e.router = d.router ∧ e.framer = d.framer ∧ e.clock = d.clock ∧ e.zones.generation = d.zones.generation

theorem SameOutput.refl (d : Device) : d.SameOutput d := ⟨rfl, rfl, rfl, rfl⟩

theorem SameOutput.trans {d e f : Device} (h : d.SameOutput e) (k : e.SameOutput f) : d.SameOutput f :=
  ⟨k.1.trans h.1, k.2.1.trans h.2.1, k.2.2.1.trans h.2.2.1, k.2.2.2.trans h.2.2.2⟩

theorem SameOutput.ite {a b a' b' : Device} {c : Prop} [Decidable c] (h : a.SameOutput a') (k : b.SameOutput b') :
    (if c then a else b).SameOutput (if c then a' else b') := by
  split
  · exact h
  · exact k

theorem SameOutput.buildFrame {d e : Device} (h : d.SameOutput e) : d.buildFrame.SameOutput e.buildFrame := by
  obtain ⟨h1, h2, h3, h4⟩ := h
  unfold Device.buildFrame Device.frameOf
  rw [h1, h2, h3, h4]
  split
  · exact ⟨h1, h2, h3, h4⟩
  · exact SameOutput.ite ⟨h1, h2, h3, h4⟩ ⟨rfl, rfl, rfl, h4⟩

theorem SameOutput.buildWhile {d e : Device} (h : d.SameOutput e) (least n : Nat) :
    (Device.buildWhile least n d).SameOutput (Device.buildWhile least n e) := by
  induction n generalizing d e with
  | zero => exact h
  | succ n ih =>
    unfold Device.buildWhile Device.canBuild
    rw [h.1, h.2.1]
    exact SameOutput.ite (ih h.buildFrame) h

theorem SameOutput.sixRecordTrigger {d e : Device} (h : d.SameOutput e) : d.sixRecordTrigger.SameOutput e.sixRecordTrigger := by
  unfold Device.sixRecordTrigger
  rw [h.2.1]
  exact SameOutput.ite (h.buildWhile _ _) h

theorem SameOutput.routeClose {d e : Device} (h : d.SameOutput e) (id n : Word16) (reason : CloseReason) (gap : Bool) (time : Word16) :
    (d.routeClose id n reason gap time).SameOutput (e.routeClose id n reason gap time) := by
  obtain ⟨h1, h2, h3, h4⟩ := h
  unfold Device.routeClose
  rw [h1]
  extract_lets r
  split
  · exact ⟨h1, h2, h3, h4⟩
  · extract_lets o s d' e'
    have k : d'.SameOutput e' := ⟨rfl, h2, h3, h4⟩
    exact SameOutput.ite k.sixRecordTrigger k

theorem SameOutput.flushTrigger {d e : Device} (h : d.SameOutput e) : d.flushTrigger.SameOutput e.flushTrigger := by
  have k := h
  obtain ⟨h1, h2, h3, h4⟩ := k
  unfold Device.flushTrigger
  rw [h1, h2]
  exact SameOutput.ite h (SameOutput.ite h.buildFrame ⟨rfl, rfl, h3, h4⟩)

/-- The CLOSE record of slot `i`'s stroke, as it stands in `d`, handed to the router of `e`. -/
def closeRouted (d : Device) (reason : Slot → CloseReason) (time : Slot → Word32) (e : Device) (i : Slot) : Device :=
  e.routeClose (d.context i).id (d.context i).count (reason i) (d.context i).laneGap ((time i).setWidth 16)

theorem closesRouted_eq (reason : Slot → CloseReason) (time : Slot → Word32) (l : List Slot) (d : Device) :
    d.closesRouted reason time l = l.foldl (d.closeRouted reason time) d := rfl

/-- The same CLOSE records handed over from devices alike. -/
theorem SameOutput.closesRouted {d e : Device} (h : d.SameOutput e) (hc : ∀ i, e.context i = d.context i) (reason : Slot → CloseReason)
    (time : Slot → Word32) (l : List Slot) : (d.closesRouted reason time l).SameOutput (e.closesRouted reason time l) := by
  have fold : ∀ (l : List Slot) (m n : Device), m.SameOutput n →
      SameOutput (l.foldl (d.closeRouted reason time) m) (l.foldl (d.closeRouted reason time) n) := fun l => by
    induction l with
    | nil => exact fun _ _ k => k
    | cons i l ih => exact fun m n k => ih _ _ (k.routeClose _ _ _ _ _)
  have hf : e.closeRouted reason time = d.closeRouted reason time := by
    funext m i
    simp only [closeRouted, hc]
  rw [closesRouted_eq, closesRouted_eq, hf]
  exact fold l d e h

/-- A fold whose steps close the strokes of the slots in `p`, and no others, hands the router their CLOSE records in the order of the fold. -/
theorem fold_sameOutput {g : Device → Slot → Device} {d : Device} {reason : Slot → CloseReason} {time : Slot → Word32} {p : Slot → Bool}
    (hg : ∀ e i, Within i e (g e i))
    (hp : ∀ e i, AgreeAt i d e → d.SurroundingsKept e → SameOutput (if p i then d.closeRouted reason time e i else e) (g e i))
    {l : List Slot} (hl : l.Nodup) {m e : Device} (ha : ∀ i ∈ l, AgreeAt i d e) (hs : d.SurroundingsKept e) (hm : m.SameOutput e) :
    SameOutput ((l.filter p).foldl (d.closeRouted reason time) m) (l.foldl g e) := by
  induction l generalizing m e with
  | nil => exact hm
  | cons i l ih =>
    obtain ⟨hi, hl⟩ := List.nodup_cons.mp hl
    have hstep := hp e i (ha i List.mem_cons_self) hs
    have hrest : ∀ j ∈ l, AgreeAt j d (g e i) := fun j hj =>
      (ha j (List.mem_cons_of_mem _ hj)).trans ((hg e i).agreeAt fun k => hi (k ▸ hj))
    have hkept : d.SurroundingsKept (g e i) := hs.trans (hg e i).2
    rw [List.filter_cons, List.foldl_cons]
    by_cases k : p i = true
    · rw [if_pos k] at hstep ⊢
      exact ih hl hrest hkept ((hm.routeClose _ _ _ _ _).trans hstep)
    · rw [if_neg k] at hstep ⊢
      exact ih hl hrest hkept (hm.trans hstep)

/-- Handing CLOSE records to the router moves neither the pacer's settings nor what a slot holds. -/
theorem routeClose_pacing (id n : Word16) (reason : CloseReason) (gap : Bool) (time : Word16) (d : Device) :
    (d.routeClose id n reason gap time).framer.period = d.framer.period ∧ (d.routeClose id n reason gap time).framer.fine = d.framer.fine := by
  unfold routeClose
  extract_lets r
  split
  · exact ⟨rfl, rfl⟩
  · extract_lets o s e
    obtain ⟨-, -, -, -, -, -, -, hp, hf⟩ := sixRecordTrigger_framed e
    split
    · exact ⟨hp, hf⟩
    · exact ⟨rfl, rfl⟩

theorem closesRouted_pacing (reason : Slot → CloseReason) (time : Slot → Word32) (l : List Slot) (d : Device) :
    (d.closesRouted reason time l).framer.period = d.framer.period ∧ (d.closesRouted reason time l).framer.fine = d.framer.fine :=
  ⟨fold_keeps (g := d.closeRouted reason time) (f := fun e => e.framer.period) (fun e _ => (routeClose_pacing _ _ _ _ _ e).1) l d,
    fold_keeps (g := d.closeRouted reason time) (f := fun e => e.framer.fine) (fun e _ => (routeClose_pacing _ _ _ _ _ e).2) l d⟩

/-! ## A close at a slot, and the contact fields after it -/

theorem setContact_setContact (i : Slot) (c k : Contact) (d : Device) : (d.setContact i c).setContact i k = d.setContact i k := by
  simp [setContact, Vector.set_set]

/-- A slot's stroke, if it has one, closed, and its contact fields set. -/
def closedAt (i : Slot) (reason : CloseReason) (time : Word32) (c : Contact) (d : Device) : Device :=
  (d.closeStroke i reason time).setContact i c

theorem closedAt_contact (i : Slot) (reason : CloseReason) (time : Word32) (c : Contact) (d : Device) :
    (d.closedAt i reason time c).contact i = c := setContact_contact_same _ i c

theorem closedAt_of_open {i : Slot} {d : Device} (h : (d.context i).isOpen = true) (reason : CloseReason) (time : Word32) (c : Contact) :
    (d.closedAt i reason time c).context i = StrokeContext.closed ∧
      (d.closedAt i reason time c).summary i = summaryOf (d.context i) reason time (d.router.delivery (d.context i).id) :=
  ⟨closeStroke_context_same h reason time, closeStroke_summary_same h reason time⟩

theorem closedAt_of_closed {i : Slot} {d : Device} (h : (d.context i).isOpen = false) (reason : CloseReason) (time : Word32)
    (c : Contact) : d.closedAt i reason time c = d.setContact i c := by
  rw [closedAt, closeStroke_of_closed h]

/-- Such a close hands the router the CLOSE record of an open stroke, and nothing else. -/
theorem closedAt_sameOutput (i : Slot) (reason : CloseReason) (time : Word32) (c : Contact) (d : Device) :
    SameOutput
      (if (d.context i).isOpen then
        d.routeClose (d.context i).id (d.context i).count reason (d.context i).laneGap (time.setWidth 16) else d)
      (d.closedAt i reason time c) := by
  cases h : (d.context i).isOpen with
  | true =>
    obtain ⟨-, -, hr, hf, -⟩ := closeStroke_closed h reason time
    obtain ⟨-, hc, -⟩ := closeStroke_steady i reason time d
    obtain ⟨-, kc, -⟩ := (routeClose_routed (d.context i).id (d.context i).count reason (d.context i).laneGap (time.setWidth 16) d).steady
    obtain ⟨-, -, -, -, -, -, -, hg, -⟩ := closeStroke_within i reason time d
    obtain ⟨-, -, -, -, -, -, -, kg, -⟩ :=
      routeClose_within i (d.context i).id (d.context i).count reason (d.context i).laneGap (time.setWidth 16) d
    exact ⟨hr, hf, hc.trans kc.symm, hg.trans kg.symm⟩
  | false =>
    rw [closedAt_of_closed h]
    exact SameOutput.refl d

/-- What such a close leaves alone in every slot. -/
theorem closedAt_rest (i : Slot) (reason : CloseReason) (time : Word32) (c : Contact) (d : Device) :
    (d.closedAt i reason time c).filters = d.filters ∧ (d.closedAt i reason time c).strokes.candidate = d.strokes.candidate := by
  obtain ⟨-, hf, -, hc⟩ := closeStroke_rest i reason time d
  exact ⟨hf, hc⟩

/-- The contact fields of a slot sent to AWAY. -/
def awayContact (c : Contact) : Contact := { c with state := .away, settle := 0, wait := .ended, liftHold := none, presence := none }

/-- A slot that is not in range is not taken out of it. -/
theorem dropRange_of_out {i : Slot} {d : Device} (h : (d.contact i).state = .free ∨ (d.contact i).state = .away) (reason : CloseReason) :
    d.dropRange i reason = d := by
  unfold dropRange
  rcases h with h | h <;> rw [h]

/-- A slot in range is sent to AWAY, its stroke, if it has one, closed at the session clock. -/
theorem dropRange_of_in {i : Slot} {d : Device} (hs : d.SlotSound i)
    (h : (d.contact i).state ≠ .free ∧ (d.contact i).state ≠ .away) (reason : CloseReason) :
    d.dropRange i reason = d.closedAt i reason d.clock (awayContact (d.contact i)) := by
  obtain ⟨-, -, hopen, -, -⟩ := hs
  have hc : (d.closeStroke i reason d.clock).contact i = d.contact i := by
    unfold contact
    rw [(closeStroke_rest i reason d.clock d).1]
  have hin : (d.closeStroke i reason d.clock).goAway i = d.closedAt i reason d.clock (awayContact (d.contact i)) := by
    unfold goAway closedAt
    rw [hc]
    rfl
  have hout : (d.context i).isOpen = false → d.goAway i = d.closedAt i reason d.clock (awayContact (d.contact i)) := fun k => by
    rw [closedAt_of_closed k]
    rfl
  unfold dropRange
  cases hst : (d.contact i).state <;> simp only [hst] at h hopen ⊢
  case free => exact absurd rfl h.1
  case away => exact absurd rfl h.2
  case inking => exact hin
  case holding => exact hin
  all_goals exact hout (by simpa using hopen)

end Sys2Proof.Machine.Device
end

section
/-! The link-valid line (R1 to R3, R8). -/

namespace Sys2Proof.Machine

open Device

namespace Device

theorem dropRange_rest (i : Slot) (reason : CloseReason) (d : Device) :
    (d.dropRange i reason).filters = d.filters ∧ (d.dropRange i reason).strokes.candidate = d.strokes.candidate := by
  obtain ⟨-, hf, -, hc⟩ := closeStroke_rest i reason d.clock d
  unfold dropRange
  split
  · exact ⟨rfl, rfl⟩
  · exact ⟨rfl, rfl⟩
  · exact ⟨hf, hc⟩
  · exact ⟨hf, hc⟩
  · exact ⟨rfl, rfl⟩

/-- Taking a slot out of range hands the router the CLOSE record of its open stroke, and nothing else. -/
theorem dropRange_sameOutput {i : Slot} {d : Device} (hs : d.SlotSound i) (reason : CloseReason) :
    SameOutput
      (if (d.context i).isOpen then
        d.routeClose (d.context i).id (d.context i).count reason (d.context i).laneGap (d.clock.setWidth 16) else d)
      (d.dropRange i reason) := by
  by_cases h : (d.contact i).state = .free ∨ (d.contact i).state = .away
  · obtain ⟨-, -, hopen, -, -⟩ := hs
    have hc : ¬(d.context i).isOpen = true := fun k => by
      rcases hopen.mp k with k | k <;> rw [k] at h <;> simp at h
    rw [dropRange_of_out h, if_neg hc]
    exact SameOutput.refl d
  · rw [dropRange_of_in hs (not_or.mp h)]
    exact closedAt_sameOutput i reason d.clock _ d

/-- What taking slot `i` out of range leaves there. -/
theorem dropRange_at {i : Slot} {d : Device} (hs : d.SlotSound i) (reason : CloseReason) :
    ((d.contact i).state = .free ∨ (d.contact i).state = .away → (d.dropRange i reason).contact i = d.contact i) ∧
      ((d.contact i).state ≠ .free ∧ (d.contact i).state ≠ .away →
        (d.dropRange i reason).contact i = awayContact (d.contact i)) ∧
      ((d.context i).isOpen = true →
        (d.dropRange i reason).context i = StrokeContext.closed ∧
          (d.dropRange i reason).summary i =
            summaryOf (d.context i) reason d.clock (d.router.delivery (d.context i).id)) ∧
      ((d.context i).isOpen = false →
        (d.dropRange i reason).context i = d.context i ∧ (d.dropRange i reason).summary i = d.summary i) := by
  by_cases h : (d.contact i).state = .free ∨ (d.contact i).state = .away
  · rw [dropRange_of_out h]
    obtain ⟨-, -, hopen, -, -⟩ := hs
    refine ⟨fun _ => rfl, fun k => absurd h (not_or.mpr k), fun k => ?_, fun _ => ⟨rfl, rfl⟩⟩
    rcases hopen.mp k with k | k <;> rw [k] at h <;> simp at h
  · rw [dropRange_of_in hs (not_or.mp h)]
    refine ⟨fun k => absurd k h, fun _ => closedAt_contact i reason d.clock _ d, fun k => closedAt_of_open k reason d.clock _, fun k => ?_⟩
    rw [closedAt_of_closed k]
    exact ⟨rfl, rfl⟩

/-- Every slot taken out of range, in ascending order. -/
def allDropped (reason : CloseReason) (d : Device) : Device := allSlots.foldl (fun e i => e.dropRange i reason) d

/-- Each slot is left as its own step leaves it, from a device in which it was still as before. -/
theorem allDropped_at {d : Device} (hs : d.SlotsSound) (reason : CloseReason) (i : Slot) :
    ∃ e, AgreeAt i d e ∧ e.clock = d.clock ∧ e.SlotSound i ∧ AgreeAt i (e.dropRange i reason) (d.allDropped reason) := by
  obtain ⟨e, ha, ⟨-, hclock, -⟩, hr⟩ :=
    fold_agreeAt_of_mem (g := fun e i => e.dropRange i reason) (fun e i => dropRange_within i reason e) allSlots_nodup (mem_allSlots i) d
  exact ⟨e, ha, hclock, ha.slotSound (hs i), hr⟩

/-- The CLOSE records of every slot taken out of range reach the router in ascending order of slot (R97). -/
theorem allDropped_sameOutput {d : Device} (hs : d.SlotsSound) (reason : CloseReason) :
    SameOutput (d.closesRouted (fun _ => reason) (fun _ => d.clock) (allSlots.filter fun j => (d.context j).isOpen))
      (d.allDropped reason) := by
  refine fold_sameOutput (fun e i => dropRange_within i reason e) (fun e i ha hk => ?_) allSlots_nodup (fun i _ => AgreeAt.refl i d)
    (SurroundingsKept.refl d) (SameOutput.refl d)
  have h := dropRange_sameOutput (ha.slotSound (hs i)) reason
  obtain ⟨-, -, hcontext, -, -⟩ := ha
  obtain ⟨-, hclock, -⟩ := hk
  rw [hcontext, hclock] at h
  exact h

theorem allDropped_surroundings (reason : CloseReason) (d : Device) : d.SurroundingsKept (d.allDropped reason) := by
  unfold allDropped
  exact fold_surroundings (g := fun e i => e.dropRange i reason) (fun e i => dropRange_within i reason e) allSlots d

theorem allDropped_rest (reason : CloseReason) (d : Device) :
    (d.allDropped reason).filters = d.filters ∧ (d.allDropped reason).strokes.candidate = d.strokes.candidate := by
  unfold allDropped
  exact ⟨fold_keeps (g := fun e i => e.dropRange i reason) (f := fun e => e.filters) (fun e i => (dropRange_rest i reason e).1) allSlots d,
    fold_keeps (g := fun e i => e.dropRange i reason) (f := fun e => e.strokes.candidate) (fun e i => (dropRange_rest i reason e).2)
      allSlots d⟩

/-- The device once the line is down, no slot taken out of range yet. -/
def lineDown (d : Device) : Device := { d with receiver := { d.receiver with link := .down, ingressReady := false } }

theorem linkFalls_eq (d : Device) : d.linkFalls = d.lineDown.allDropped .lost := rfl

theorem linkRises_lane (l : Lane) (d : Device) : d.linkRises.lane l = { d.lane l with expected := none } := by
  simp [linkRises, lane]

end Device

/-- Settles O5: each slot is dropped from range on its own, so the fold over the slots leaves each as its own step does and hands the router
its CLOSE record in the slot's turn. -/
theorem linkLineTakesPensOutOfRange : Obligations.LinkLineTakesPensOutOfRange := by
  intro s l n
  refine ⟨fun hs => ?_, s.dev.linkRises, rfl, rfl, rfl, ?_, linkRises_lane l s.dev, rfl⟩
  · have hd : s.dev.lineDown.SlotsSound := hs
    obtain ⟨hreceiver, hclock, hresponder, harbiter, hpens, hactive, hgeneration, hlocked, hstate, htimer, -⟩ :=
      allDropped_surroundings .lost s.dev.lineDown
    obtain ⟨hfilters, hcandidate⟩ := allDropped_rest .lost s.dev.lineDown
    obtain ⟨hrouter, hframer, -⟩ := allDropped_sameOutput hd .lost
    have hline : SameOutput s.dev s.dev.lineDown := ⟨rfl, rfl, rfl, rfl⟩
    refine ⟨s.dev.linkFalls, rfl, ?_⟩
    rw [linkFalls_eq]
    refine ⟨hreceiver, hclock, hpens, hfilters, hresponder, harbiter, hactive, hgeneration, hlocked, hstate, htimer, hcandidate, ?_,
      fun i => ?_⟩
    · have hm : SameOutput _ (s.dev.lineDown.closesRouted (fun _ => .lost) (fun _ => s.dev.clock)
          (allSlots.filter fun j => (s.dev.context j).isOpen)) := hline.closesRouted (fun _ => rfl) _ _ _
      exact ⟨hrouter.trans hm.1, hframer.trans hm.2.1⟩
    · obtain ⟨e, ⟨-, hcontact, hcontext, -, hsummary⟩, heclock, hes, ⟨-, kcontact, kcontext, -, ksummary⟩⟩ := allDropped_at hd .lost i
      obtain ⟨hout, hin, hopen, hclosed⟩ := dropRange_at hes .lost
      rw [hcontact] at hout hin
      rw [hcontext] at hopen hclosed
      rw [kcontact, kcontext, ksummary]
      refine ⟨hout, fun h => ?_, fun h => ?_, fun h => ?_⟩
      · rw [hin h]
        exact ⟨rfl, rfl, rfl, rfl⟩
      · obtain ⟨hc, hm⟩ := hopen h
        rw [hc, hm, heclock]
        exact ⟨rfl, rfl, rfl, rfl, rfl, rfl⟩
      · exact ⟨(hclosed h).1, (hclosed h).2.trans hsummary⟩
  · simp [linkRises_lane, LaneState.passes]

end Sys2Proof.Machine
end

section
/-! The tick and what is due at it (R11, R12, R45, R53, R143). -/

namespace Sys2Proof.Machine

open Device

namespace Device

/-! ## The expiries of one slot -/

/-- Slot `i`'s lift-hold timer is due. -/
abbrev Lifts (d : Device) (i : Slot) : Prop := (d.contact i).state = .holding ∧ (d.contact i).liftHold = some 0

/-- With which reason, and at which time, the expiries of slot `i` close its stroke: the lift-hold timer's come first. -/
def expiryReason (d : Device) (i : Slot) : CloseReason := if d.Lifts i then .lift else .lost
def expiryTime (d : Device) (i : Slot) : Word32 := if d.Lifts i then (d.contact i).liftTime else d.clock

/-- The contact fields that the expiries of a slot leave: AWAY where its presence timer was due, else HOVER. -/
def expiredContact (c : Contact) : Contact := if c.presence = some 0 then awayContact c else { c with state := .hover, liftHold := none }

theorem closeStroke_contact (i j : Slot) (reason : CloseReason) (time : Word32) (d : Device) :
    (d.closeStroke i reason time).contact j = d.contact j := by
  unfold contact
  rw [(closeStroke_rest i reason time d).1]

theorem liftHoldExpires_of_lifts {i : Slot} {d : Device} (h : d.Lifts i) :
    d.liftHoldExpires i = d.closedAt i .lift (d.contact i).liftTime { d.contact i with state := .hover, liftHold := none } := by
  unfold liftHoldExpires
  rw [if_pos h]
  simp only [closeStroke_contact]
  rfl

theorem dropRange_of_hover {i : Slot} {d : Device} (h : (d.contact i).state = .hover) (reason : CloseReason) :
    d.dropRange i reason = d.goAway i := by
  unfold dropRange
  rw [h]

/-- A presence timer runs in range alone. -/
theorem SlotSound.in_range {i : Slot} {d : Device} (hs : d.SlotSound i) (h : (d.contact i).presence = some 0) :
    (d.contact i).state ≠ .free ∧ (d.contact i).state ≠ .away := by
  obtain ⟨-, -, -, -, hp⟩ := hs
  rw [h] at hp
  simpa using hp

/-- What is due at a slot, and how it closes its stroke, lies in its contact fields and the session clock. -/
theorem AgreeAt.expiry {i : Slot} {d e : Device} (h : AgreeAt i d e) (hclock : e.clock = d.clock) :
    e.expiryReason i = d.expiryReason i ∧ e.expiryTime i = d.expiryTime i ∧ (e.SlotDue i ↔ d.SlotDue i) := by
  obtain ⟨-, hcontact, -⟩ := h
  simp only [expiryReason, expiryTime, SlotDue, Lifts, hcontact, hclock, and_self]

/-- What is due at a slot closes its stroke once and leaves `expiredContact`. -/
theorem slotExpires_of_due {i : Slot} {d : Device} (hs : d.SlotSound i) (h : d.SlotDue i) :
    d.slotExpires i = d.closedAt i (d.expiryReason i) (d.expiryTime i) (expiredContact (d.contact i)) := by
  unfold slotExpires expiryReason expiryTime expiredContact
  by_cases hl : d.Lifts i
  · rw [if_pos hl, if_pos hl, liftHoldExpires_of_lifts hl]
    unfold presenceExpires
    rw [closedAt_contact]
    by_cases hp : (d.contact i).presence = some 0
    · rw [if_pos hp, if_pos hp, dropRange_of_hover (by rw [closedAt_contact])]
      unfold goAway
      rw [closedAt_contact]
      exact setContact_setContact i _ _ _
    · rw [if_neg hp, if_neg hp]
  · have hp : (d.contact i).presence = some 0 := h.resolve_right hl
    have hd : d.liftHoldExpires i = d := if_neg hl
    rw [if_neg hl, if_neg hl, if_pos hp, hd, ← dropRange_of_in hs (hs.in_range hp)]
    exact if_pos hp

theorem slotExpires_rest (i : Slot) (d : Device) :
    (d.slotExpires i).filters = d.filters ∧ (d.slotExpires i).strokes.candidate = d.strokes.candidate := by
  have hl : (d.liftHoldExpires i).filters = d.filters ∧ (d.liftHoldExpires i).strokes.candidate = d.strokes.candidate := by
    by_cases h : d.Lifts i
    · rw [liftHoldExpires_of_lifts h]
      exact closedAt_rest i _ _ _ d
    · rw [show d.liftHoldExpires i = d from if_neg h]
      exact ⟨rfl, rfl⟩
  have hp : ∀ e : Device, (e.presenceExpires i).filters = e.filters ∧ (e.presenceExpires i).strokes.candidate = e.strokes.candidate := by
    intro e
    unfold presenceExpires
    split
    · exact dropRange_rest i .lost e
    · exact ⟨rfl, rfl⟩
  exact ⟨(hp _).1.trans hl.1, (hp _).2.trans hl.2⟩

/-- What is due at a slot hands the router the CLOSE record of its open stroke, and nothing else. -/
theorem slotExpires_sameOutput {i : Slot} {d : Device} (hs : d.SlotSound i) :
    SameOutput
      (if d.SlotDue i ∧ (d.context i).isOpen = true then
        d.routeClose (d.context i).id (d.context i).count (d.expiryReason i) (d.context i).laneGap ((d.expiryTime i).setWidth 16) else d)
      (d.slotExpires i) := by
  by_cases h : d.SlotDue i
  · have hi : (d.SlotDue i ∧ (d.context i).isOpen = true) = ((d.context i).isOpen = true) := propext (and_iff_right h)
    simp only [hi, slotExpires_of_due hs h]
    exact closedAt_sameOutput i _ _ _ d
  · rw [if_neg fun k => h k.1, slotExpires_of_not_due h]
    exact SameOutput.refl d

/-! ## The expiries of all slots -/

/-- Every slot's expiries that are due, in ascending order of slot. -/
def allExpired (d : Device) : Device := allSlots.foldl slotExpires d

theorem takeDue_eq (d : Device) : d.takeDue = d.allExpired.pacerExpires := rfl

theorem allExpired_surroundings (d : Device) : d.SurroundingsKept d.allExpired := by
  unfold allExpired
  exact fold_surroundings (fun e i => slotExpires_within i e) allSlots d

theorem allExpired_rest (d : Device) :
    d.allExpired.filters = d.filters ∧ d.allExpired.strokes.candidate = d.strokes.candidate := by
  unfold allExpired
  exact ⟨fold_keeps (g := slotExpires) (f := fun e => e.filters) (fun e i => (slotExpires_rest i e).1) allSlots d,
    fold_keeps (g := slotExpires) (f := fun e => e.strokes.candidate) (fun e i => (slotExpires_rest i e).2) allSlots d⟩

/-- What the expiries of all slots leave at slot `i`. -/
theorem allExpired_at {d : Device} (hs : d.SlotsSound) (i : Slot) :
    (d.SlotDue i →
      d.allExpired.contact i = expiredContact (d.contact i) ∧
        ((d.context i).isOpen = true →
          d.allExpired.context i = StrokeContext.closed ∧
            ∃ v, d.allExpired.summary i = summaryOf (d.context i) (d.expiryReason i) (d.expiryTime i) v) ∧
        ((d.context i).isOpen = false → d.allExpired.context i = d.context i ∧ d.allExpired.summary i = d.summary i)) ∧
      (¬d.SlotDue i → AgreeAt i d d.allExpired) := by
  obtain ⟨e, ha, ⟨-, hclock, -⟩, hr⟩ :=
    fold_agreeAt_of_mem (g := slotExpires) (fun e i => slotExpires_within i e) allSlots_nodup (mem_allSlots i) d
  have hes := ha.slotSound (hs i)
  obtain ⟨hreason, htime, hdue⟩ := ha.expiry hclock
  refine ⟨fun h => ?_, fun h => ?_⟩
  · obtain ⟨-, hcontact, hcontext, -, hsummary⟩ := ha
    obtain ⟨-, kcontact, kcontext, -, ksummary⟩ := hr
    rw [slotExpires_of_due hes (hdue.mpr h), hreason, htime] at kcontact kcontext ksummary
    unfold allExpired
    rw [kcontact, kcontext, ksummary, closedAt_contact, hcontact]
    refine ⟨rfl, fun k => ?_, fun k => ?_⟩
    · rw [← hcontext] at k
      obtain ⟨hc, hm⟩ := closedAt_of_open k (d.expiryReason i) (d.expiryTime i) (expiredContact (d.contact i))
      rw [hcontext] at hm
      exact ⟨hc, _, hm⟩
    · rw [← hcontext] at k
      rw [closedAt_of_closed k]
      exact ⟨hcontext, hsummary⟩
  · rw [slotExpires_of_not_due (mt hdue.mp h)] at hr
    exact ha.trans hr

/-- The CLOSE records of the expiries reach the router in ascending order of slot (R97). -/
theorem allExpired_sameOutput {d : Device} (hs : d.SlotsSound) :
    SameOutput (d.closesRouted d.expiryReason d.expiryTime (allSlots.filter fun j => d.SlotDue j ∧ (d.context j).isOpen = true))
      d.allExpired := by
  refine fold_sameOutput (fun e i => slotExpires_within i e) (fun e i ha hk => ?_) allSlots_nodup (fun i _ => AgreeAt.refl i d)
    (SurroundingsKept.refl d) (SameOutput.refl d)
  have h := slotExpires_sameOutput (ha.slotSound (hs i))
  obtain ⟨-, hclock, -⟩ := hk
  obtain ⟨hreason, htime, hdue⟩ := ha.expiry hclock
  obtain ⟨-, -, hcontext, -, -⟩ := ha
  simp only [hdue, hreason, htime, hcontext] at h
  simp only [decide_eq_true_eq]
  exact h

/-! ## The pacer -/

theorem flushTrigger_routed (d : Device) : d.Routed d.flushTrigger :=
  Routed.ite (Routed.refl d) (Routed.ite (buildFrame_framed d).routed rfl)

/-- A flush trigger leaves the pacer alone. -/
theorem flushTrigger_pacer (d : Device) :
    d.flushTrigger.framer.state = d.framer.state ∧ d.flushTrigger.framer.cycle = d.framer.cycle ∧
      d.flushTrigger.framer.period = d.framer.period ∧ d.flushTrigger.framer.fine = d.framer.fine := by
  obtain ⟨-, hstate, -, hcycle, -, -, -, hperiod, hfine⟩ := buildFrame_framed d
  unfold flushTrigger
  split
  · exact ⟨rfl, rfl, rfl, rfl⟩
  · split
    · exact ⟨hstate, hcycle, hperiod, hfine⟩
    · exact ⟨rfl, rfl, rfl, rfl⟩

theorem pacerExpires_routed (d : Device) : d.Routed d.pacerExpires := by
  unfold pacerExpires
  exact Routed.ite ((flushTrigger_routed d).trans rfl) (Routed.refl d)

/-- The pacer's expiry, where it runs in ENABLED alone: a flush trigger and the next period (R142, R143). -/
theorem pacerExpires_output {m d : Device} (h : m.SameOutput d) (hs : d.framer.timer.isSome = true ↔ d.framer.state = .enabled) :
    (d.pacerExpires.router = (if d.framer.timer = some 0 then m.flushTrigger else m).router ∧
      d.pacerExpires.framer =
        { (if d.framer.timer = some 0 then m.flushTrigger else m).framer with
          cycle := d.pacerExpires.framer.cycle, timer := d.pacerExpires.framer.timer }) ∧
      d.pacerExpires.framer.state = d.framer.state ∧
      if d.framer.timer = some 0 then
        d.pacerExpires.framer.cycle = d.framer.cycle + 1 ∧
          d.pacerExpires.framer.timer = some (d.framer.period.toNat + if d.framer.cycle + 1 < d.framer.fine then 1 else 0)
      else d.pacerExpires.framer.cycle = d.framer.cycle ∧ d.pacerExpires.framer.timer = d.framer.timer := by
  by_cases ht : d.framer.timer = some 0
  · have hen : d.framer.state = .enabled := hs.mp (by rw [ht]; rfl)
    obtain ⟨hstate, hcycle, hperiod, hfine⟩ := flushTrigger_pacer d
    obtain ⟨hrouter, hframer, -⟩ := h.flushTrigger
    rw [if_pos ht, if_pos ht, pacerExpires_cases, if_pos ⟨hen, ht⟩]
    refine ⟨⟨hrouter, ?_⟩, hstate, ?_, ?_⟩
    · rw [← hframer]
      rfl
    · exact congrArg (· + 1) hcycle
    · rw [← hcycle, ← hperiod, ← hfine]
      rfl
  · rw [if_neg ht, if_neg ht, pacerExpires_cases, if_neg fun k => ht k.2]
    exact ⟨⟨h.1, by rw [← h.2.1]⟩, rfl, rfl, rfl⟩

/-! ## The tick -/

theorem tick_contact (i : Slot) (d : Device) :
    d.tick.contact i = { d.contact i with liftHold := tickTimer (d.contact i).liftHold, presence := tickTimer (d.contact i).presence } := by
  simp [tick, contact]

/-- Each of `n` ticks takes one off a timer. -/
theorem tickTimer_map (n : Nat) (x : Option Nat) : tickTimer (x.map (· - n)) = x.map (· - (n + 1)) := by
  cases x <;> simp [tickTimer, Nat.sub_sub]

theorem iterate_tick (n : Nat) (i : Slot) (d : Device) :
    (Nat.iterate tick n d).clock = d.clock + BitVec.ofNat 32 n ∧
      ((Nat.iterate tick n d).contact i).presence = (d.contact i).presence.map (· - n) ∧
      ((Nat.iterate tick n d).contact i).liftHold = (d.contact i).liftHold.map (· - n) ∧
      (Nat.iterate tick n d).framer.timer = d.framer.timer.map (· - n) := by
  induction n with
  | zero => simp
  | succ n ih =>
    obtain ⟨hclock, hpresence, hlift, htimer⟩ := ih
    rw [Function.iterate_succ_apply', tick_contact]
    refine ⟨?_, ?_, ?_, ?_⟩
    · show (Nat.iterate tick n d).clock + 1 = _
      rw [hclock, BitVec.ofNat_add, BitVec.add_assoc]
      rfl
    · show tickTimer _ = _
      rw [hpresence, tickTimer_map]
    · show tickTimer _ = _
      rw [hlift, tickTimer_map]
    · show tickTimer (Nat.iterate tick n d).framer.timer = _
      rw [htimer, tickTimer_map]

/-- While nothing is due, milliseconds are ticks. -/
theorem iterate_millisecond {n : Nat} {d : Device} (h : ∀ m : Nat, m < n → ¬(Nat.iterate tick m d).AnyDue) :
    Nat.iterate millisecond n d = Nat.iterate tick n d := by
  induction n with
  | zero => rw [Function.iterate_zero, Function.iterate_zero]
  | succ n ih =>
    rw [Function.iterate_succ_apply', Function.iterate_succ_apply', ih fun m hm => h m (by omega)]
    exact millisecond_of_not_due (h n (Nat.lt_succ_self n))

/-- What a millisecond leaves of the fields that neither an expiry nor the tick writes. -/
theorem millisecond_rest (d : Device) :
    d.millisecond.receiver = d.receiver ∧ d.millisecond.clock = d.clock + 1 ∧ d.millisecond.pens = d.pens ∧
      d.millisecond.filters = d.filters ∧ d.millisecond.responder = d.responder ∧ d.millisecond.arbiter = d.arbiter ∧
      d.millisecond.strokes.candidate = d.strokes.candidate ∧ d.millisecond.zones.active = d.zones.active ∧
      d.millisecond.zones.generation = d.zones.generation ∧ d.millisecond.zones.locked = d.zones.locked := by
  have hp := pacerExpires_routed d.allExpired
  obtain ⟨hreceiver, hclock, hresponder, harbiter, hpens, hactive, hgeneration, hlocked, -⟩ := allExpired_surroundings d
  obtain ⟨hfilters, hcandidate⟩ := allExpired_rest d
  unfold millisecond
  rw [takeDue_eq]
  generalize d.allExpired = e at *
  rw [hp]
  exact ⟨hreceiver, congrArg (· + 1) hclock, hpens, hfilters, hresponder, harbiter, hcandidate, hactive, hgeneration, hlocked⟩

/-- What a millisecond leaves at a slot: what its expiries leave, its timers one tick on. -/
theorem millisecond_at (i : Slot) (d : Device) :
    d.millisecond.contact i =
        { d.allExpired.contact i with
          liftHold := tickTimer (d.allExpired.contact i).liftHold, presence := tickTimer (d.allExpired.contact i).presence } ∧
      d.millisecond.context i = d.allExpired.context i ∧ d.millisecond.summary i = d.allExpired.summary i := by
  have hp := pacerExpires_routed d.allExpired
  unfold millisecond
  rw [takeDue_eq, tick_contact]
  generalize d.allExpired = e at *
  rw [hp]
  exact ⟨rfl, rfl, rfl⟩

/-- What a millisecond hands to the outputs: the expired strokes' CLOSE records, then the pacer's flush trigger; and the pacer one tick on. -/
theorem millisecond_output {d : Device} (hs : d.SlotsSound) (hp : d.framer.timer.isSome = true ↔ d.framer.state = .enabled) :
    let m := d.closesRouted d.expiryReason d.expiryTime (allSlots.filter fun j => d.SlotDue j ∧ (d.context j).isOpen = true)
    let p := if d.framer.timer = some 0 then m.flushTrigger else m
    d.millisecond.router = p.router ∧
      d.millisecond.framer = { p.framer with cycle := d.millisecond.framer.cycle, timer := d.millisecond.framer.timer } ∧
      d.millisecond.framer.state = d.framer.state ∧
      if d.framer.timer = some 0 then
        d.millisecond.framer.cycle = d.framer.cycle + 1 ∧
          d.millisecond.framer.timer =
            some (d.framer.period.toNat + (if d.framer.cycle + 1 < d.framer.fine then 1 else 0) - 1)
      else d.millisecond.framer.cycle = d.framer.cycle ∧ d.millisecond.framer.timer = tickTimer d.framer.timer := by
  extract_lets m p
  have hm := allExpired_sameOutput hs
  obtain ⟨-, -, -, -, -, -, -, -, hstate, htimer, hcycle⟩ := allExpired_surroundings d
  obtain ⟨hperiod, hfine⟩ :=
    closesRouted_pacing d.expiryReason d.expiryTime (allSlots.filter fun j => d.SlotDue j ∧ (d.context j).isOpen = true) d
  have hout := pacerExpires_output hm (by rw [htimer, hstate]; exact hp)
  have hperiod' : d.allExpired.framer.period = d.framer.period := by rw [hm.2.1]; exact hperiod
  have hfine' : d.allExpired.framer.fine = d.framer.fine := by rw [hm.2.1]; exact hfine
  unfold millisecond
  rw [takeDue_eq]
  rw [htimer, hcycle, hperiod', hfine', hstate] at hout
  generalize d.allExpired.pacerExpires = e at *
  obtain ⟨⟨hrouter, hframer⟩, hstate', hpacer⟩ := hout
  refine ⟨hrouter, ?_, hstate', ?_⟩
  · show { e.framer with timer := tickTimer e.framer.timer } = _
    rw [hframer]
    rfl
  · show if _ then e.framer.cycle = _ ∧ tickTimer e.framer.timer = _ else e.framer.cycle = _ ∧ tickTimer e.framer.timer = _
    by_cases ht : d.framer.timer = some 0
    · rw [if_pos ht] at hpacer ⊢
      obtain ⟨hc, htime⟩ := hpacer
      rw [htime]
      exact ⟨hc, rfl⟩
    · rw [if_neg ht] at hpacer ⊢
      obtain ⟨hc, htime⟩ := hpacer
      rw [htime]
      exact ⟨hc, rfl⟩

end Device

/-- Settles O6: a millisecond is the expiries slot by slot, the pacer's, and the tick; with nothing due it is the tick alone. -/
theorem ticksAdvanceClockAndTimers : Obligations.TicksAdvanceClockAndTimers := by
  intro s n i
  extract_lets less c k f gone lifted
  refine ⟨fun h => ?_, fun hs hshare => ?_, ?_⟩
  · show Host.Outcome.next _ = _
    rw [show s.dev.millisecond = _ from millisecond_of_not_due h]
    rfl
  · obtain ⟨hreceiver, hclock, hpens, hfilters, hresponder, harbiter, hcandidate, hactive, hgeneration, hlocked⟩ := millisecond_rest s.dev
    obtain ⟨hcontact, hcontext, hsummary⟩ := millisecond_at i s.dev
    obtain ⟨hdue, hnotdue⟩ := allExpired_at hs i
    obtain ⟨hrouter, hframer, hstate, hpacer⟩ := millisecond_output hs hshare.1
    refine ⟨s.dev.millisecond, rfl, hclock, fun h => ?_, fun hn h => ?_, fun hn hl => ?_, fun h ho => ?_, fun h ho => ?_, hpacer,
      ⟨hrouter, hframer⟩, hreceiver, hpens, hfilters, hresponder, harbiter, hstate, hcandidate, hactive, hgeneration, hlocked⟩
    · rw [hcontact, (hdue (.inl h)).1, expiredContact, if_pos h]
      exact ⟨rfl, rfl, rfl, rfl⟩
    · rw [hcontact, (hdue (.inr h)).1, expiredContact, if_neg hn]
      rfl
    · obtain ⟨-, kcontact, kcontext, -, ksummary⟩ := hnotdue fun h => h.elim hn hl
      rw [hcontact, hcontext, hsummary, kcontact]
      exact ⟨rfl, kcontext, ksummary⟩
    · obtain ⟨-, hopen, -⟩ := hdue h
      obtain ⟨hc, v, hm⟩ := hopen ho
      rw [hcontext, hsummary, hc, hm]
      exact ⟨rfl, rfl, rfl, rfl, rfl, rfl⟩
    · obtain ⟨-, -, hclosed⟩ := hdue h
      rw [hcontext, hsummary]
      exact hclosed ho
  · obtain ⟨hclock, hpresence, hlift, htimer⟩ := iterate_tick n i s.dev
    exact ⟨hclock, hpresence, hlift, htimer, iterate_millisecond⟩

end Sys2Proof.Machine
end

section
/-! Reset, the cells that are dropped, and the events out of their turn (R1, R4, R5, R16). -/

namespace Sys2Proof.Machine

open Device

/-! ## Steps and their completion -/

/-- Settles O2: each row of the opcode table acts on the device alone. -/
theorem everyStepCompletes : Obligations.EveryStepCompletes := by
  intro i s
  cases i <;> exact ⟨_, rfl⟩

/-! ## Hard reset -/

/-- What hard reset leaves in each block but the Cell Receiver does not depend on the link-valid line. -/
theorem hardResetDevice_eq (v : Bool) :
    hardResetDevice v = { Device.reset with receiver := if v then Device.reset.linkRises.receiver else CellReceiver.reset } := by
  cases v <;> rfl

theorem hardResetDevice_receiver (v : Bool) :
    (hardResetDevice v).receiver = ⟨if v then .up else .down, v, Vector.replicate 4 LaneState.reset⟩ := by
  cases v
  · rfl
  · simp [hardResetDevice, linkRises, Device.reset, CellReceiver.reset, LaneState.reset]

/-- The records of every slot after hard reset. -/
theorem reset_slot (i : Slot) : Device.reset.slot i = PenSlot.reset := Vector.getElem_replicate i.isLt
theorem reset_contact (i : Slot) : Device.reset.contact i = Contact.reset := Vector.getElem_replicate i.isLt
theorem reset_context (i : Slot) : Device.reset.context i = StrokeContext.closed := Vector.getElem_replicate i.isLt
theorem reset_summary (i : Slot) : Device.reset.summary i = Summary.reset := Vector.getElem_replicate i.isLt
theorem reset_filter (i : Slot) : Device.reset.filter i = ⟨0, 0⟩ := Vector.getElem_replicate i.isLt

/-- Both banks after hard reset. -/
theorem reset_bank (n : BankName) : Device.reset.zones.bank n = Bank.reset := by cases n <;> rfl

/-- Settles O3: every block holds the values of its hard-reset column, the link taken as the line stands. -/
theorem hardResetSetsEveryValue : Obligations.HardResetSetsEveryValue := by
  intro v s
  refine ⟨hardResetDevice v, rfl, ?_⟩
  have hreceiver := hardResetDevice_receiver v
  have hlane : ∀ l : Lane, (hardResetDevice v).lane l = ⟨none, 0, 0⟩ := fun l => by
    simp [Device.lane, hreceiver, LaneState.reset]
  refine ⟨by rw [hreceiver], by rw [hreceiver], hlane, ?_⟩
  rw [hardResetDevice_eq]
  refine ⟨rfl, fun i => Vector.getElem_replicate i.isLt, fun i => Vector.getElem_replicate i.isLt, fun i => Vector.getElem_replicate i.isLt,
    rfl, rfl, rfl, rfl, rfl, rfl, fun i => ⟨reset_slot i, reset_contact i, reset_filter i, reset_context i, reset_summary i⟩,
    fun b z => ?_, fun b => ?_, rfl, rfl, rfl, rfl, rfl, rfl, rfl, rfl, rfl, rfl, rfl, rfl, rfl, rfl, rfl, rfl,
    fun b => Vector.getElem_replicate b.isLt, rfl, rfl, rfl, rfl, rfl, rfl, fun k => Vector.getElem_replicate k.isLt, rfl, rfl, rfl⟩
  · rw [show ZoneTable.bank _ _ = Bank.reset from reset_bank _]
    exact Vector.getElem_replicate z.isLt
  · rw [show ZoneTable.bank _ _ = Bank.reset from reset_bank _]
    exact ⟨rfl, rfl, fun z => Vector.getElem_replicate z.isLt⟩

/-- With no stroke open, the binding counts are 0. -/
theorem reset_openBound (p : Byte → Bool) : Device.reset.openBound p = 0 := by
  simp [openBound, reset_context, StrokeContext.closed]

/-- A slot after hard reset keeps its promises: it is FREE, without stroke and timer. -/
theorem reset_slotsSound : Device.reset.SlotsSound := by
  intro i
  unfold SlotSound
  rw [reset_slot, reset_contact, reset_context]
  simp [PenSlot.reset, Contact.reset, StrokeContext.closed]

/-- No stroke is open after hard reset. -/
theorem reset_not_open (i : Slot) : ¬(Device.reset.context i).isOpen = true := by
  rw [reset_context]
  exact nofun

theorem reset_banksSound : Device.reset.BanksSound := by
  refine ⟨?_, ?_, fun i h => absurd h (reset_not_open i), ?_⟩
  · rw [reset_openBound]
    rfl
  · rw [reset_openBound]
    rfl
  · decide

theorem reset_framesSound : Device.reset.FramesSound := by
  refine ⟨List.nodup_nil, fun b => ?_⟩
  rw [show Device.reset.framer.buffers[b] = .empty from Vector.getElem_replicate b.isLt]
  exact ⟨⟨nofun, nofun⟩, rfl⟩

theorem reset_shareSound : Device.reset.ShareSound :=
  ⟨⟨nofun, nofun⟩, fun _ => ⟨nofun, rfl, rfl⟩, fun _ => rfl, nofun, fun h => absurd rfl h⟩

theorem defaultProfile_clamped : Profile.Clamped Config.defaultProfile := by decide

theorem reset_settingsSound : Device.reset.SettingsSound := by
  refine ⟨fun i => ?_, fun i => ?_, fun i j => ?_, fun i => ?_, by decide, by decide⟩
  · rw [show Device.reset.pens.profiles[i] = Config.defaultProfile from Vector.getElem_replicate i.isLt]
    exact defaultProfile_clamped
  · rw [reset_slot]
    exact defaultProfile_clamped
  · rw [show Device.reset.pens.curves[i] = Config.defaultKnots from Vector.getElem_replicate i.isLt]
    revert j
    decide
  · rw [reset_slot]
    decide

/-- After hard reset nothing is queued, bound, open or running, so every promise holds. -/
theorem reset_sound : Device.reset.Sound := by
  refine ⟨by decide, ⟨nofun, by decide, by decide⟩, ⟨by decide, by decide, rfl, fun h => absurd rfl h⟩, reset_framesSound, reset_slotsSound,
    fun i j h => ?_, ⟨by decide, fun i h => absurd h (reset_not_open i), fun i j h => absurd h (reset_not_open i)⟩, reset_banksSound,
    fun i h => absurd h (reset_not_open i), ⟨List.Pairwise.nil, nofun, fun i h => absurd h (reset_not_open i)⟩, reset_shareSound,
    fun i => ?_, reset_settingsSound, fun i h => absurd h (reset_not_open i)⟩
  · rw [reset_slot] at h
    exact nomatch h
  · rw [reset_filter]
    decide

/-- Settles O4: no promise looks at the Cell Receiver. -/
theorem resetStateIsSound : Obligations.ResetStateIsSound := by
  refine ⟨rfl, reset_sound, fun v => ?_⟩
  rw [hardResetDevice_eq]
  exact reset_sound

/-! ## Cells that are not taken -/

/-- A cell that fails a check of R4 or R5 is read for its lane alone. -/
theorem classify_of_unfit {cell : Cell}
    (h : Cell.check cell ≠ cell[15] ∨ (cell[0] ≠ 0xD1 ∧ cell[0] ≠ 0xD2 ∧ cell[0] ≠ 0xD7) ∨
      (cell[0] = 0xD2 ∧ cell[5] ≠ 0x01 ∧ cell[5] ≠ 0x02)) : classify cell = .invalid (Cell.lane cell) := by
  unfold classify
  by_cases hcrc : Cell.check cell ≠ cell[15]
  · rw [if_pos hcrc]
  · rw [if_neg hcrc]
    rcases h.resolve_left hcrc with ⟨h1, h2, h7⟩ | ⟨hkind, henter, hleave⟩
    · exact (if_neg h1).trans ((if_neg h2).trans (if_neg h7))
    · have hev : proximityEventOf cell[5] = none := (if_neg henter).trans (if_neg hleave)
      refine (if_neg (by rw [hkind]; decide)).trans ((if_pos hkind).trans ?_)
      rw [hev]

theorem cellArrives_of_down {d : Device} (h : d.receiver.link = .down) (cell : Cell) : d.cellArrives cell = d := by
  unfold cellArrives
  rw [h]

section Arrival

variable {d : Device} {cell : Cell} (h : d.receiver.link = .up)

include h

/-- A cell on an UP link is taken as its checks find it (R4 to R7). -/
theorem cellArrives_of_sample {l : Lane} {n : BitVec 4} {f : SampleFields} (hc : classify cell = .sample l n f) :
    d.cellArrives cell = d.arriveSample l n f := by
  simp only [cellArrives, h, hc]

theorem cellArrives_of_proximity {l : Lane} {n : BitVec 4} {t : Word24} {ev : ProximityEvent}
    (hc : classify cell = .proximity l n t ev) : d.cellArrives cell = d.arriveProximity l n t ev := by
  simp only [cellArrives, h, hc]

theorem cellArrives_of_command {c : Command} (hc : classify cell = .command c) : d.cellArrives cell = d.commandArrives c := by
  simp only [cellArrives, h, hc]

theorem cellArrives_of_invalid {l : Lane} (hc : classify cell = .invalid l) : d.cellArrives cell = d.badCell l := by
  simp only [cellArrives, h, hc]

end Arrival

/-- Settles O7. -/
theorem unfitCellsAreDropped : Obligations.UnfitCellsAreDropped := by
  intro s cell
  refine ⟨fun h => ?_, fun hup hunfit => ⟨s.dev.badCell (Cell.lane cell), ?_, ?_⟩⟩
  · have hk : s.onDevice (cellArrives cell) = .next ⟨s.dev, s.pending⟩ := by
      rw [State.onDevice_eq, cellArrives_of_down h]
    exact ⟨hk, hk, hk, hk⟩
  · show s.onDevice (cellArrives cell) = _
    rw [State.onDevice_eq, cellArrives_of_invalid hup (classify_of_unfit hunfit)]
  · have hsame : (s.dev.badCell (Cell.lane cell)).lane (Cell.lane cell) =
        { s.dev.lane (Cell.lane cell) with badCells := satInc (s.dev.lane (Cell.lane cell)).badCells } :=
      setLane_lane_same s.dev _ _
    have hother : ∀ l : Lane, l ≠ Cell.lane cell → (s.dev.badCell (Cell.lane cell)).lane l = s.dev.lane l := fun l h =>
      setLane_lane_ne s.dev _ h
    refine ⟨by rw [hsame], by rw [hsame], fun l => ⟨?_, hother l⟩, rfl, rfl⟩
    by_cases h : l = Cell.lane cell
    · rw [h, hsame]
    · rw [hother l h]

/-! ## Events out of their turn -/

theorem pulseEnds_of_ne {q : NoticeQueue} (h : q.line ≠ .pulsing) : q.pulseEnds = q := by
  unfold NoticeQueue.pulseEnds
  cases hl : q.line with
  | pulsing => exact absurd hl h
  | released => rfl
  | asserted => rfl

theorem overlayBegins_of_idle {d : Device} (h : d.router.overlayQueue = [] ∨ d.router.overlayTx ≠ none) (ready : Bool) :
    d.overlayBegins ready = d := by
  unfold overlayBegins
  split
  · next hx hq => exact absurd h (by simp [hx, hq])
  · rfl

theorem egressBegins_of_idle {d : Device} (h : d.arbiter.inTransmission ≠ none ∨ d.arbiter.replies = [] ∧ d.framer.heldOrder = [])
    (ready : Bool) : d.egressBegins ready = d := by
  unfold egressBegins
  split
  · next hx =>
    obtain ⟨hr, hh⟩ := h.resolve_left (fun k => k hx)
    simp [frameBegins, hr, hh]
  · rfl

theorem completes_of_idle {d : Device} (h : d.arbiter.inTransmission = none) : d.replyCompletes = d ∧ d.frameCompletes = d := by
  unfold replyCompletes frameCompletes
  rw [h]
  exact ⟨rfl, rfl⟩

/-- A step that leaves the device as it is. -/
theorem onDevice_of_eq {f : Device → Device} {s : State} (h : f s.dev = s.dev) : s.onDevice f = .next ⟨s.dev, s.pending⟩ := by
  rw [State.onDevice_eq, h]

/-- Settles O37. -/
theorem eventsOutOfTurnChangeNothing : Obligations.EventsOutOfTurnChangeNothing := by
  intro s i
  refine ⟨fun h => onDevice_of_eq (f := presenceExpires i) (if_neg h),
    fun h => onDevice_of_eq (f := liftHoldExpires i) (if_neg fun k => h k.2),
    fun h => onDevice_of_eq (f := pacerExpires) (if_neg fun k => h k.2),
    fun h => onDevice_of_eq (f := fun d => { d with notices := d.notices.pulseEnds }) (by rw [pulseEnds_of_ne h]),
    rfl, rfl,
    fun h => onDevice_of_eq (overlayBegins_of_idle h true),
    fun h => onDevice_of_eq (f := overlayCompletes) (if_neg (by simp [h])),
    fun h => onDevice_of_eq (egressBegins_of_idle h true),
    fun h => ⟨onDevice_of_eq (completes_of_idle h).1, onDevice_of_eq (completes_of_idle h).2⟩,
    fun h => onDevice_of_eq (f := fun d => if d.responder.reading.isSome then d.nextItem.takingTest else d) (if_neg (by simp [h]))⟩

/-! ## Single reads -/

theorem byteNat_linkNo (l : LinkState) : byteNat (linkNo l) = if l = .up then 1 else 0 := by cases l <;> rfl

/-- A command row at a ready responder answers at once what its command answers. -/
theorem becomes_of_ready {i : Instr} {c : Command} {s : State} (h : encodeCommand i = some c) (hr : s.dev.Ready) :
    Becomes i s (runCommand (executed i) s.dev) := by
  rw [Becomes, exec_of_command h, State.onDevice_eq, commandStep_of_ready hr]

/-- Settles O44. -/
theorem singleReadsReportValues : Obligations.SingleReadsReportValues := by
  intro s tag code
  extract_lets d z f
  refine ⟨rfl, ?_, fun hr => ⟨fun hcode => ?_, becomes_of_ready rfl hr, becomes_of_ready rfl hr, becomes_of_ready rfl hr,
    becomes_of_ready rfl hr, becomes_of_ready rfl hr, becomes_of_ready rfl hr⟩⟩
  · unfold runReadStatus statusPayload
    rw [byteNat_linkNo]
    rfl
  · have h := becomes_of_ready (i := .unknownCommand code tag) rfl hr
    rw [executed, decodeCommand_of_unknown hcode] at h
    exact h

end Sys2Proof.Machine
end

section
/-! The lane check (R8, R9, R98), and the session clock and the counters (R15, R164). -/

namespace Sys2Proof.Machine

open Device

/-! ## The lane check -/

/-- The lane check sets its own lane's expected value and, on a gap, its gap counter. -/
theorem checkSequence_lane_same (l : Lane) (n : BitVec 4) (d : Device) :
    (d.checkSequence l n).lane l =
      ⟨some (n + 1), (d.lane l).badCells, if (d.lane l).passes n then (d.lane l).gaps else satInc (d.lane l).gaps⟩ := by
  unfold checkSequence
  by_cases h : (d.lane l).passes n = true
  · rw [if_pos h, if_pos h, setLane_lane_same]
  · rw [if_neg h, if_neg h, setLane_lane_same]
    have hl := setLane_lane_same d l { d.lane l with gaps := satInc (d.lane l).gaps }
    show LaneState.mk _ (Device.lane (d.setLane l _) l).badCells (Device.lane (d.setLane l _) l).gaps = _
    rw [hl]

theorem checkSequence_lane_ne {l m : Lane} (h : m ≠ l) (n : BitVec 4) (d : Device) : (d.checkSequence l n).lane m = d.lane m := by
  unfold checkSequence
  split
  · exact setLane_lane_ne d _ h
  · exact (setLane_lane_ne _ _ h).trans (setLane_lane_ne d _ h)

/-- Which contexts a lane gap marks (R98). -/
theorem markLaneGap_context (l : Lane) (i : Slot) (d : Device) :
    (d.markLaneGap l).context i =
      if (d.context i).isOpen = true ∧ (d.slot i).lane = l then { d.context i with laneGap := true } else d.context i := by
  have h : (d.markLaneGap l).context i =
      if (d.context i).isOpen && decide ((d.slot i).lane = l) then { d.context i with laneGap := true } else d.context i :=
    Vector.getElem_mapFinIdx ..
  rw [h]
  exact if_congr (by simp) rfl rfl

theorem checkSequence_context (l : Lane) (n : BitVec 4) (i : Slot) (d : Device) :
    (d.checkSequence l n).context i =
      if (d.lane l).passes n = false ∧ (d.context i).isOpen = true ∧ (d.slot i).lane = l then { d.context i with laneGap := true }
      else d.context i := by
  unfold checkSequence
  cases (d.lane l).passes n with
  | true => simp
  | false =>
    rw [if_neg Bool.false_ne_true, setLane_context, markLaneGap_context]
    exact if_congr (by simp) rfl rfl

theorem checkSequence_notices (l : Lane) (n : BitVec 4) (d : Device) :
    (d.checkSequence l n).notices = if (d.lane l).passes n then d.notices else d.notices.post .laneGap (laneSubject l) := by
  unfold checkSequence
  cases (d.lane l).passes n <;> rfl

/-- The lane check touches the lanes, the notices and the contexts alone. -/
theorem checkSequence_rest (l : Lane) (n : BitVec 4) (d : Device) :
    d.checkSequence l n =
      { d with
        receiver := { d.receiver with lanes := (d.checkSequence l n).receiver.lanes }
        notices := (d.checkSequence l n).notices
        strokes := { d.strokes with contexts := (d.checkSequence l n).strokes.contexts } } := by
  unfold checkSequence
  split <;> rfl

theorem checkSequence_link (l : Lane) (n : BitVec 4) (d : Device) : (d.checkSequence l n).receiver.link = d.receiver.link := by
  rw [checkSequence_rest]

theorem checkSequence_clock (l : Lane) (n : BitVec 4) (d : Device) : (d.checkSequence l n).clock = d.clock := by
  rw [checkSequence_rest]

theorem checkSequence_pens (l : Lane) (n : BitVec 4) (d : Device) : (d.checkSequence l n).pens = d.pens := by
  rw [checkSequence_rest]

theorem checkSequence_contacts (l : Lane) (n : BitVec 4) (d : Device) : (d.checkSequence l n).contacts = d.contacts := by
  rw [checkSequence_rest]

theorem checkSequence_filters (l : Lane) (n : BitVec 4) (d : Device) : (d.checkSequence l n).filters = d.filters := by
  rw [checkSequence_rest]

/-- Looking a pen up reads the Pen Table alone. -/
theorem slotOfPen_congr {d e : Device} (h : e.pens = d.pens) (t : Word24) : e.slotOfPen t = d.slotOfPen t := by
  unfold slotOfPen slot
  rw [h]

/-- Whatever steadily follows the lane check, the lanes are as the check left them. -/
theorem lane_after_check {l : Lane} {n : BitVec 4} {d e : Device} (h : (d.checkSequence l n).Steady e) (hup : d.receiver.link = .up) :
    e.lane l = ⟨some (n + 1), (d.lane l).badCells, if (d.lane l).passes n then (d.lane l).gaps else satInc (d.lane l).gaps⟩ ∧
      (∀ m : Lane, m ≠ l → e.lane m = d.lane m) ∧ e.receiver.link = .up ∧ e.clock = d.clock := by
  obtain ⟨hreceiver, hclock, -⟩ := h
  have hlane : ∀ m, e.lane m = (d.checkSequence l n).lane m := fun m => by
    unfold lane
    rw [hreceiver]
  refine ⟨by rw [hlane, checkSequence_lane_same], fun m hm => by rw [hlane, checkSequence_lane_ne hm], ?_, ?_⟩
  · rw [hreceiver, checkSequence_link, hup]
  · rw [hclock, checkSequence_clock]

/-- A LEAVE of an unbound pen is ignored behind the lane check (R23). -/
theorem arriveProximity_of_unbound {t : Word24} {d : Device} (h : d.slotOfPen t = none) (l : Lane) (n : BitVec 4) :
    d.arriveProximity l n t .leave = d.checkSequence l n := by
  unfold arriveProximity penProximity
  rw [slotOfPen_congr (checkSequence_pens l n d), h]

/-- Settles O8: the cell's way behind the lane check leaves the Cell Receiver alone. -/
theorem laneCheckCountsGapsAndMarksStrokes : Obligations.LaneCheckCountsGapsAndMarksStrokes := by
  intro s cell l n f t ev hup
  refine ⟨fun hc => ⟨s.dev.cellArrives cell, rfl, ?_⟩, fun hc => ⟨s.dev.cellArrives cell, rfl, ?_⟩,
    fun hc hfree => ⟨s.dev.cellArrives cell, rfl, ?_⟩⟩
  · rw [cellArrives_of_sample hup hc]
    exact lane_after_check (penSample_steady l _ _) hup
  · rw [cellArrives_of_proximity hup hc]
    exact lane_after_check (penProximity_steady l t ev _ _) hup
  · rw [cellArrives_of_proximity hup hc, arriveProximity_of_unbound hfree]
    refine ⟨checkSequence_notices l n s.dev, fun i => checkSequence_context l n i s.dev, ?_⟩
    conv_lhs => rw [checkSequence_rest]
    rw [checkSequence_rest]

/-! ## SET TIME and CLEAR COUNTERS -/

theorem runSetTime_slot (tag : Word16) (v : Word32) (i : Slot) (d : Device) :
    (runSetTime tag v d).slot i = (d.slot i).shiftSeen (v - d.clock) := by
  simp [runSetTime, Device.slot, Device.reply]

/-- A last-seen time moved with the clock keeps its age. -/
theorem age_shifted (clock v seen : Word32) : v - (seen + (v - clock)) = clock - seen := by
  bv_omega

theorem clearCounters_lane (l : Lane) (d : Device) : d.clearCounters.lane l = ⟨(d.lane l).expected, 0, 0⟩ := by
  simp [clearCounters, Device.lane, CellReceiver.clearBad, CellReceiver.clearGaps]

/-- Every counter of every group is 0 after CLEAR COUNTERS. -/
theorem clearCounters_groupCounters (g : BitVec 3) (d : Device) : ∀ c ∈ d.clearCounters.groupCounters g, c = 0 := by
  have hlanes : d.clearCounters.receiver.lanes = d.receiver.lanes.map fun l => ⟨l.expected, 0, 0⟩ := by
    simp [clearCounters, CellReceiver.clearBad, CellReceiver.clearGaps, Function.comp_def]
  have hblocked : d.clearCounters.zones.activeBank.blocked = Vector.replicate 17 0 := by
    simp only [clearCounters, ZoneTable.activeBank]
    cases d.zones.active <;> rfl
  intro c hc
  unfold groupCounters at hc
  rw [hlanes, hblocked] at hc
  split at hc
  case h_1 =>
    have h : (∃ x, x ∈ d.receiver.lanes) ∧ 0 = c := by simpa using hc
    exact h.2.symm
  case h_2 => simpa [clearCounters, PenTable.clearCounters] using hc
  case h_3 => simpa using hc
  case h_4 => simpa [clearCounters, Router.clearCounters] using hc
  case h_5 => simpa [clearCounters, ShareFramer.clearCounters] using hc
  case h_6 => cases hc

/-- Settles O46. -/
theorem clockAndCountersAreSet : Obligations.ClockAndCountersAreSet := by
  intro s tag v i g hr
  refine ⟨⟨runSetTime tag v s.dev, becomes_of_ready rfl hr, rfl, ?_, fun h => ?_, fun h => ?_, rfl, rfl, rfl⟩,
    ⟨runClearCounters tag s.dev, becomes_of_ready rfl hr, clearCounters_groupCounters g s.dev,
      fun l => clearCounters_lane l s.dev, rfl, rfl, rfl, rfl⟩⟩
  · rw [runSetTime_slot, PenSlot.shiftSeen]
    split <;> rfl
  · rw [runSetTime_slot, PenSlot.shiftSeen, if_pos h]
    exact age_shifted _ _ _
  · rw [runSetTime_slot, PenSlot.shiftSeen, if_neg (by rw [h]; exact nofun)]

end Sys2Proof.Machine
end

section
/-! New pens: the terms they get, the slot they take, and the sample that brings them (R13, R17, R18, R23, R24, R41, R44, R45, R48, R49). -/

namespace Sys2Proof.Machine

open Device

/-! ## Terms -/

/-- The masked comparison of R17, bit by bit. -/
theorem AdmissionEntry.accepts_iff (e : AdmissionEntry) (t : Word24) : e.accepts t = true ↔ e.Matches t := by
  have hbit : ∀ k : Nat, ((t ^^^ e.matchValue) &&& e.mask).getLsbD k = false ↔
      (e.mask.getLsbD k = true → t.getLsbD k = e.matchValue.getLsbD k) := fun k => by
    rw [BitVec.getLsbD_and, BitVec.getLsbD_xor]
    cases t.getLsbD k <;> cases e.matchValue.getLsbD k <;> cases e.mask.getLsbD k <;> decide
  have hzero : (t ^^^ e.matchValue) &&& e.mask = 0 ↔ ∀ k : Fin 24, e.mask.getLsbD k = true → t.getLsbD k = e.matchValue.getLsbD k := by
    refine ⟨fun h k => (hbit k).mp (by rw [h]; exact BitVec.getLsbD_zero), fun h => BitVec.eq_of_getLsbD_eq fun k hk => ?_⟩
    rw [(hbit k).mpr (h ⟨k, hk⟩)]
    exact BitVec.getLsbD_zero.symm
  simp only [accepts, Bool.and_eq_true, decide_eq_true_eq, hzero]

/-- The first index that a search in ascending order finds. -/
theorem find_finRange_iff {n : Nat} (p : Fin n → Bool) (i : Fin n) :
    (List.finRange n).find? p = some i ↔ p i = true ∧ ∀ j < i, ¬p j = true := by
  rw [← Fin.find?_eq_find?_finRange, Fin.find?_eq_some_iff]
  simp

/-- A lookup gives the terms of the lowest matching entry, or of a guest (R17, R18). -/
theorem PenTable.termsFor_iff (p : PenTable) (t : Word24) (a : Admission) : p.termsFor t = some a ↔ p.Gives t a := by
  unfold termsFor Gives
  cases h : (List.finRange 8).find? fun i => (p.admission[i]).accepts t with
  | some i =>
    obtain ⟨hi, hbefore⟩ := (find_finRange_iff _ i).mp h
    simp only [AdmissionEntry.accepts_iff] at hi hbefore
    refine ⟨fun k => .inl ⟨i, hi, hbefore, (Option.some.inj k).symm⟩, fun k => ?_⟩
    rcases k with ⟨j, hj, hjbefore, ha⟩ | ⟨hnone, -⟩
    · have hij : j = i := le_antisymm (le_of_not_gt fun q => hjbefore i q hi) (le_of_not_gt fun q => hbefore j q hj)
      rw [ha, hij]
    · exact absurd hi (hnone i)
  | none =>
    have hnone : ∀ j : Fin 8, ¬(p.admission[j]).Matches t := fun j k =>
      List.find?_eq_none.mp h j (List.mem_finRange j) ((AdmissionEntry.accepts_iff _ t).mpr k)
    refine ⟨fun k => .inr ⟨hnone, ?_⟩, fun k => ?_⟩
    · by_cases hg : p.guestAdmission = true
      · rw [if_pos hg] at k
        exact ⟨hg, (Option.some.inj k).symm⟩
      · rw [if_neg hg] at k
        cases k
    · rcases k with ⟨j, hj, -⟩ | ⟨-, hg, ha⟩
      · exact absurd hj (hnone j)
      · rw [ha]
        exact if_pos hg

namespace Device

/-! ## The choice of a slot -/

/-- Slot `i` can take a new pen as it stands. -/
abbrev IsFree (d : Device) (i : Slot) : Prop := (d.slot i).enabled = true ∧ (d.slot i).binding = .free

/-- Slot `i` is the AWAY slot of the greatest age, the lowest-numbered among equals. -/
abbrev IsOldest (d : Device) (i : Slot) : Prop :=
  (d.contact i).state = .away ∧
    ∀ j : Slot, (d.contact j).state = .away →
      d.age (d.slot j).lastSeen < d.age (d.slot i).lastSeen ∨ d.age (d.slot j).lastSeen = d.age (d.slot i).lastSeen ∧ i ≤ j

theorem freeSlotNo_iff (d : Device) (i : Slot) : d.freeSlotNo = some i ↔ d.IsFree i ∧ ∀ j < i, ¬d.IsFree j := by
  rw [freeSlotNo, allSlots, find_finRange_iff]
  simp only [Bool.and_eq_true, decide_eq_true_eq]

theorem freeSlotNo_eq_none {d : Device} (h : ∀ j, ¬d.IsFree j) : d.freeSlotNo = none := by
  cases k : d.freeSlotNo with
  | none => rfl
  | some i => exact absurd ((d.freeSlotNo_iff i).mp k).1 (h i)

/-- One step of the search for the oldest AWAY slot. -/
def olderOf (d : Device) (best : Option Slot) (i : Slot) : Option Slot :=
  if (d.contact i).state = .away then
    match best with
    | none => some i
    | some j => if d.age (d.slot j).lastSeen < d.age (d.slot i).lastSeen then some i else some j
  else best

theorem oldestAway_eq_foldl (d : Device) : d.oldestAway = allSlots.foldl d.olderOf none := rfl

/-- Once found, the oldest slot is kept: no later slot is older. -/
theorem foldl_olderOf_kept {d : Device} {i : Slot} (hi : d.IsOldest i) (l : List Slot) : l.foldl d.olderOf (some i) = some i := by
  induction l with
  | nil => rfl
  | cons j l ih =>
    have hstep : d.olderOf (some i) j = some i := by
      unfold olderOf
      by_cases ha : (d.contact j).state = .away
      · have hle : ¬d.age (d.slot i).lastSeen < d.age (d.slot j).lastSeen := by
          rcases hi.2 j ha with h | ⟨h, -⟩
          · exact BitVec.lt_asymm h
          · rw [h]
            exact BitVec.lt_irrefl _
        rw [if_pos ha]
        exact if_neg hle
      · exact if_neg ha
    rw [List.foldl_cons, hstep, ih]

/-- The search in ascending order finds the oldest slot, whatever younger slot it begins with. -/
theorem foldl_olderOf_found {d : Device} {i : Slot} (hi : d.IsOldest i) {l : List Slot} (hl : l.Pairwise (· < ·)) (hmem : i ∈ l)
    {best : Option Slot} (hb : ∀ k ∈ best, d.age (d.slot k).lastSeen < d.age (d.slot i).lastSeen) :
    l.foldl d.olderOf best = some i := by
  induction l generalizing best with
  | nil => cases hmem
  | cons j l ih =>
    obtain ⟨hj, hl⟩ := List.pairwise_cons.mp hl
    rw [List.foldl_cons]
    rcases List.mem_cons.mp hmem with rfl | hmem
    · have hstep : d.olderOf best i = some i := by
        unfold olderOf
        rw [if_pos hi.1]
        cases best with
        | none => rfl
        | some k => exact if_pos (hb k rfl)
      rw [hstep, foldl_olderOf_kept hi]
    · refine ih hl hmem fun k hk => ?_
      have hyounger : (d.contact j).state = .away → d.age (d.slot j).lastSeen < d.age (d.slot i).lastSeen := fun ha =>
        (hi.2 j ha).resolve_right fun q => absurd (hj i hmem) (not_lt_of_ge q.2)
      unfold olderOf at hk
      split at hk
      · next ha =>
        split at hk
        · cases hk
          exact hyounger ha
        · split at hk <;> cases hk
          · exact hyounger ha
          · exact hb _ rfl
      · exact hb k hk

theorem oldestAway_eq {d : Device} {i : Slot} (hi : d.IsOldest i) : d.oldestAway = some i := by
  rw [oldestAway_eq_foldl]
  exact foldl_olderOf_found hi (List.pairwise_lt_finRange 12) (mem_allSlots i) nofun

/-- The device in which slot `i` takes its pen: with every slot taken, its AWAY pen is evicted first (R24). -/
def madeFree (i : Slot) (d : Device) : Device := if ∀ j, ¬d.IsFree j then d.evict i else d

theorem chooseSlot_eq {d : Device} {i : Slot} (h : (d.IsFree i ∧ ∀ j < i, ¬d.IsFree j) ∨ (∀ j, ¬d.IsFree j) ∧ d.IsOldest i) :
    d.chooseSlot = some (i, d.madeFree i) := by
  unfold chooseSlot madeFree
  rcases h with h | ⟨hnone, hold⟩
  · rw [(d.freeSlotNo_iff i).mpr h, if_neg fun k => k i h.1]
  · rw [freeSlotNo_eq_none hnone, oldestAway_eq hold, if_pos hnone]

theorem bindAttempt_eq {d : Device} {t : Word24} {a : Admission} {i : Slot} (ha : d.pens.termsFor t = some a)
    (h : d.chooseSlot = some (i, d.madeFree i)) (l : Lane) (stamp : Word32) :
    d.bindAttempt t l stamp = (some i, (d.madeFree i).bindSlot i t l a stamp) := by
  unfold bindAttempt
  rw [ha, h]

/-! ## The slot bound -/

/-- A slot's record once it is bound to a pen: the pen, its terms and a copy of the profile (R23). -/
def boundSlot (p : PenSlot) (t : Word24) (l : Lane) (a : Admission) (params : Profile) (stamp : Word32) : PenSlot :=
  { p with
    binding := .bound, transducer := t, lane := l, role := a.role, group := a.group, colour := a.colour, params := params, offsetX := 0,
    offsetY := 0, captureArmed := false, targetX := 0, targetY := 0, lastSeen := stamp }

/-- An eviction frees its slot alone, posts it and counts it (R24). -/
theorem evict_eq (i : Slot) (d : Device) :
    ∃ p, d.evict i =
        { d with
          pens := { d.pens with slots := d.pens.slots.set i p, evictions := satInc d.pens.evictions }
          contacts := d.contacts.set i Contact.reset
          filters := d.filters.set i ⟨0, 0⟩
          notices := d.notices.post .penEvicted (slotSubject i) } ∧
      ∀ t l a params stamp, boundSlot p t l a params stamp = boundSlot (d.slot i) t l a params stamp :=
  ⟨_, rfl, fun _ _ _ _ _ => rfl⟩

/-- A bind writes its slot alone, posts it and counts it (R23). -/
theorem bindSlot_eq (i : Slot) (t : Word24) (l : Lane) (a : Admission) (stamp : Word32) (d : Device) :
    d.bindSlot i t l a stamp =
      { d with
        pens :=
          { d.pens with
            slots := d.pens.slots.set i (boundSlot (d.slot i) t l a d.pens.profiles[index4 a.profile] stamp), binds := satInc d.pens.binds }
        contacts := d.contacts.set i ⟨.hover, 0, .ended, 0, none, some (10 * d.pens.presenceCount.toNat), 0⟩
        notices := d.notices.post .penBound (slotSubject i) } := by
  simp only [bindSlot, restartPresence, setContact_contact_same, setContact_setContact]
  rfl

/-- The device once slot `i` has taken a new pen in, its AWAY pen evicted first where no slot is free. -/
def takenIn (i : Slot) (t : Word24) (l : Lane) (a : Admission) (stamp : Word32) (d : Device) : Device :=
  (d.madeFree i).bindSlot i t l a stamp

section TakenIn

variable (i : Slot) (t : Word24) (l : Lane) (a : Admission) (stamp : Word32) (d : Device)

/-- What has changed when a slot has taken a new pen in. -/
theorem takenIn_eq :
    d.takenIn i t l a stamp =
      { d with
        pens :=
          { d.pens with
            slots := d.pens.slots.set i (boundSlot (d.slot i) t l a d.pens.profiles[index4 a.profile] stamp)
            binds := satInc d.pens.binds
            evictions := if ∀ j, ¬d.IsFree j then satInc d.pens.evictions else d.pens.evictions }
        contacts := d.contacts.set i ⟨.hover, 0, .ended, 0, none, some (10 * d.pens.presenceCount.toNat), 0⟩
        filters := if ∀ j, ¬d.IsFree j then d.filters.set i ⟨0, 0⟩ else d.filters
        notices :=
          (if ∀ j, ¬d.IsFree j then d.notices.post .penEvicted (slotSubject i) else d.notices).post .penBound (slotSubject i) } := by
  unfold takenIn madeFree
  by_cases h : ∀ j, ¬d.IsFree j
  · obtain ⟨p, he, hp⟩ := evict_eq i d
    simp only [if_pos h, he, bindSlot_eq, slot, Fin.getElem_fin, Vector.getElem_set_self, Vector.set_set, hp]
  · simp only [if_neg h, bindSlot_eq]

theorem takenIn_slot_same :
    (d.takenIn i t l a stamp).slot i = boundSlot (d.slot i) t l a d.pens.profiles[index4 a.profile] stamp := by
  rw [takenIn_eq]
  exact Vector.getElem_set_self i.isLt

theorem takenIn_contact_same :
    (d.takenIn i t l a stamp).contact i = ⟨.hover, 0, .ended, 0, none, some (10 * d.pens.presenceCount.toNat), 0⟩ := by
  rw [takenIn_eq]
  exact Vector.getElem_set_self i.isLt

theorem takenIn_others : d.OthersKept i (d.takenIn i t l a stamp) := by
  intro j hj
  have hij : (i : Nat) ≠ j := fun e => hj (Fin.ext e.symm)
  rw [takenIn_eq]
  refine ⟨Vector.getElem_set_ne i.isLt j.isLt hij, Vector.getElem_set_ne i.isLt j.isLt hij, rfl, ?_, rfl⟩
  show (if _ then _ else _ : Vector FilterValue 12)[j] = _
  split
  · exact Vector.getElem_set_ne i.isLt j.isLt hij
  · rfl

theorem takenIn_notices_of_evicted (h : ∀ j, ¬d.IsFree j) :
    (d.takenIn i t l a stamp).notices = (d.notices.post .penEvicted (slotSubject i)).post .penBound (slotSubject i) ∧
      (d.takenIn i t l a stamp).pens.evictions = satInc d.pens.evictions ∧ (d.takenIn i t l a stamp).filter i = ⟨0, 0⟩ := by
  rw [takenIn_eq]
  refine ⟨congrArg (NoticeQueue.post _ _) (if_pos h), if_pos h, ?_⟩
  simp only [filter, if_pos h]
  exact Vector.getElem_set_self i.isLt

theorem takenIn_notices_of_free (h : ¬∀ j, ¬d.IsFree j) :
    (d.takenIn i t l a stamp).notices = d.notices.post .penBound (slotSubject i) ∧
      (d.takenIn i t l a stamp).pens.evictions = d.pens.evictions ∧ (d.takenIn i t l a stamp).filter i = d.filter i := by
  rw [takenIn_eq]
  refine ⟨congrArg (NoticeQueue.post _ _) (if_neg h), if_neg h, ?_⟩
  simp only [filter, if_neg h]

end TakenIn

theorem slotOfPen_eq_none {d : Device} {t : Word24} (h : d.slotOfPen t = none) (j : Slot) :
    ¬((d.slot j).binding = .bound ∧ (d.slot j).transducer = t) := by
  simpa using List.find?_eq_none.mp h j (mem_allSlots j)

/-- The only slot that holds a pen is where it is found. -/
theorem slotOfPen_eq_some {d : Device} {t : Word24} {i : Slot} (hi : (d.slot i).binding = .bound ∧ (d.slot i).transducer = t)
    (h : ∀ j, j ≠ i → ¬((d.slot j).binding = .bound ∧ (d.slot j).transducer = t)) : d.slotOfPen t = some i := by
  rw [slotOfPen, allSlots, find_finRange_iff]
  simp only [Bool.and_eq_true, decide_eq_true_eq]
  exact ⟨hi, fun j hj => h j (ne_of_lt hj)⟩

/-- A new pen's cell at the Pen Table asks for a bind (R23). -/
theorem penProximity_of_new {d : Device} {t : Word24} (h : d.slotOfPen t = none) (l : Lane) (stamp : Word32) :
    d.penProximity l t .enter stamp = (d.bindAttempt t l stamp).2 := by
  unfold penProximity
  rw [h]

/-- Its sample is then taken at the slot that it got. -/
theorem penSample_of_new {d e : Device} {s : Sample} {i : Slot} {l : Lane} (h : d.slotOfPen s.fields.transducer = none)
    (hb : d.bindAttempt s.fields.transducer l s.stamp = (some i, e)) : d.penSample l s = e.takeSample i s := by
  unfold penSample
  rw [h]
  simp only [hb]

/-! ## A contact begun -/

theorem setContact_self (i : Slot) (d : Device) : d.setContact i (d.contact i) = d := by
  simp [setContact, contact]

/-- A presence timer just started is not moved by a restart. -/
theorem restartPresence_of_started {i : Slot} {d : Device} (h : (d.contact i).presence = some d.presenceTimeout) :
    d.restartPresence i = d := by
  have hc : { d.contact i with presence := some d.presenceTimeout } = d.contact i := by rw [← h]
  rw [restartPresence, hc, setContact_self]

theorem takeSample_of_hover {i : Slot} {d : Device} (h : (d.contact i).state = .hover) (s : Sample) :
    d.takeSample i s = (d.restartPresence i).hoverSample i s := by
  unfold takeSample
  rw [h]

/-- A seeded filter stands at the corrected point (R106, R110). -/
theorem unitPoint_seedValue (p : Point) : (seedValue p).unitPoint = p := by
  have h : ∀ x : Word16, unitAxis (16 * x.toNat) = x := fun x => by
    have hx := x.isLt
    have hq : (16 * x.toNat + 8) / 16 = x.toNat := by omega
    rw [unitAxis, hq, if_neg (by omega)]
    simp
  simp only [seedValue, FilterValue.unitPoint, h]

theorem seedFilter_unitPoint (i : Slot) (s : Sample) (d : Device) : (d.seedFilter i s).unitPoint i = d.corrected i s := by
  rw [unitPoint, seedFilter, setFilter_filter_same, unitPoint_seedValue]

/-- A contact begin without capture is blocked, opens a stroke, or begins a settle (R49). -/
theorem contactBegin_eq {i : Slot} {d : Device} (h : (d.slot i).captureArmed = false) (s : Sample) :
    d.contactBegin i s =
      if d.allows i (d.effectiveEnd i s) (d.activeZone i s) = false then (d.seedFilter i s).blockSlot i (d.activeZone i s)
      else if (d.slot i).params.settleCount.toNat = 0 then (d.seedFilter i s).openFrom i s (d.activeZone i s)
      else d.settleBegun i s := by
  have hs : (d.seedFilter i s).slot i = d.slot i := rfl
  unfold contactBegin
  extract_lets e zone count
  rw [show (e.slot i).captureArmed = false from h]
  simp only [Bool.not_eq_true', Bool.false_eq_true, if_false]
  rfl

/-- A protected zone counts and posts its refusal (R44, R65). -/
theorem blockSlot_of_guarded {z : ZoneNo} {d : Device} (h : (d.zones.activeBank.rulesOf z).guarded = true) (i : Slot) :
    d.blockSlot i z =
      { d.setContact i { d.contact i with state := .blocked } with
        zones :=
          d.zones.setBank d.zones.active
            { d.zones.activeBank with blocked := d.zones.activeBank.blocked.set z (satInc d.zones.activeBank.blocked[z]) }
        notices := d.notices.post .protectedBlock (some z) } := if_pos h

/-- Another zone does not. -/
theorem blockSlot_of_unguarded {z : ZoneNo} {d : Device} (h : (d.zones.activeBank.rulesOf z).guarded = false) (i : Slot) :
    d.blockSlot i z = d.setContact i { d.contact i with state := .blocked } := if_neg (Bool.eq_false_iff.mp h)

/-- A refused contact: BLOCKED, the filter seeded, the refusal accounted for (R44, R49, R65). -/
theorem blockSlot_seeded (i : Slot) (s : Sample) (d : Device) :
    d.ContactBlocked i s ((d.seedFilter i s).blockSlot i (d.activeZone i s)) := by
  have hw : d.Within i ((d.seedFilter i s).blockSlot i (d.activeZone i s)) := (setFilter_within i _ d).trans (blockSlot_within i _ _)
  have hcontact := setContact_contact_same (d.seedFilter i s) i { d.contact i with state := .blocked }
  have hfilter := setFilter_filter_same d i (seedValue (d.corrected i s))
  cases hg : (d.zones.activeBank.rulesOf (d.activeZone i s)).guarded with
  | true =>
    rw [blockSlot_of_guarded (d := d.seedFilter i s) hg] at hw ⊢
    exact ⟨hcontact, hfilter, by rw [RefusalCounted, if_pos hg]; exact ⟨rfl, rfl⟩, hw.1, rfl⟩
  | false =>
    rw [blockSlot_of_unguarded (d := d.seedFilter i s) hg] at hw ⊢
    exact ⟨hcontact, hfilter, by rw [RefusalCounted, if_neg (by rw [hg]; exact Bool.false_ne_true)]; exact ⟨rfl, rfl⟩, hw.1, rfl⟩

/-- An OPEN handed to the router gets its delivery record. -/
theorem routeOpen_delivers (o : OpenRecord) (st : Steering) (d : Device) :
    ∃ v ∈ (d.routeOpen o st).router.deliveries, v.id = o.id ∧ v.slot = o.slot := by
  unfold routeOpen
  extract_lets r oa oi sa si orf srf v d1 d2 d3
  have h1 : v ∈ d1.router.deliveries := List.mem_append_right _ List.mem_cons_self
  have h3 : d3.router.deliveries = d1.router.deliveries := by
    show (if srf = true then post .shareOverflow (slotSubject o.slot) (if orf = true then d1.post .overlayStall (slotSubject o.slot) else d1)
      else if orf = true then d1.post .overlayStall (slotSubject o.slot) else d1).router.deliveries = _
    cases srf <;> cases orf <;> rfl
  have h4 : d3.sixRecordTrigger.router.deliveries = d3.router.deliveries := by rw [(sixRecordTrigger_framed d3).1]
  refine ⟨v, ?_, rfl, rfl⟩
  split
  · rw [h4, h3]
    exact h1
  · rw [h3]
    exact h1

/-- What the sample of a contact asks to open (R85). -/
def contactRequest (i : Slot) (s : Sample) (d : Device) : OpenRequest :=
  ⟨d.activeZone i s, d.effectiveEnd i s, s.fields.pressure, s.stamp, false⟩

theorem openFrom_seedFilter (i : Slot) (s : Sample) (d : Device) :
    (d.seedFilter i s).openFrom i s (d.activeZone i s) =
      ((d.seedFilter i s).openStroke i (d.contactRequest i s)).setState i .inking := rfl

/-- A stroke opened at the seeded point (R49, R85). -/
theorem openFrom_seeded (i : Slot) (s : Sample) (d : Device) :
    d.StrokeBegun i s ((d.seedFilter i s).openFrom i s (d.activeZone i s)) := by
  have hw : d.Within i ((d.seedFilter i s).openFrom i s (d.activeZone i s)) := (setFilter_within i _ d).trans (openFrom_within i s _ _)
  have hal : (d.seedFilter i s).Alike d := ⟨rfl, rfl, rfl, rfl, rfl⟩
  obtain ⟨hcontext, hcandidate, hzones, hrouter, hframer, hnotices⟩ :=
    openStroke_opened (s := s) (seedFilter_unitPoint i s d) (d.effectiveEnd i s) (d.activeZone i s) false
  obtain ⟨hcontacts, hfilters, -, hsummaries, -⟩ := openStroke_rest i (d.contactRequest i s) (d.seedFilter i s)
  have hdelivered :=
    routeOpen_delivers (openRecordOf i ((d.seedFilter i s).openedContext i (d.contactRequest i s)))
      ((d.seedFilter i s).openedContext i (d.contactRequest i s)).steering ((d.seedFilter i s).beforeRouting i (d.contactRequest i s))
  have hcontact : ((d.seedFilter i s).openStroke i (d.contactRequest i s)).contact i = d.contact i := by
    rw [contact, hcontacts]
    rfl
  refine ⟨⟨hcontext, hcandidate, hzones, hrouter.trans (hal.routeOpen _ _).1, hframer.trans (hal.routeOpen _ _).2.1,
    hnotices.trans (hal.routeOpen _ _).2.2.1⟩, ?_, ?_, ?_, hdelivered, hw.1, hw.2⟩ <;> rw [openFrom_seedFilter]
  · rw [setState, setContact_contact_same, hcontact]
  · rw [setState, setContact_filter, filter, hfilters]
    exact setFilter_filter_same d i _
  · rw [setState, setContact_summary, summary, hsummaries]
    rfl

section ContactBegin

variable {i : Slot} {d : Device} {s : Sample}

/-- The three ends of a contact begin without capture (R49). -/
theorem contactBegin_of_refused (h : (d.slot i).captureArmed = false)
    (ha : d.allows i (d.effectiveEnd i s) (d.activeZone i s) = false) : d.ContactBlocked i s (d.contactBegin i s) := by
  rw [contactBegin_eq h, if_pos ha]
  exact blockSlot_seeded i s d

theorem contactBegin_of_no_settle (h : (d.slot i).captureArmed = false)
    (ha : d.allows i (d.effectiveEnd i s) (d.activeZone i s) = true) (hn : (d.slot i).params.settleCount = 0) :
    d.StrokeBegun i s (d.contactBegin i s) := by
  have hz : (d.slot i).params.settleCount.toNat = 0 := congrArg BitVec.toNat hn
  rw [contactBegin_eq h, if_neg (Bool.not_eq_false _ ▸ ha), if_pos hz]
  exact openFrom_seeded i s d

theorem contactBegin_of_settle (h : (d.slot i).captureArmed = false)
    (ha : d.allows i (d.effectiveEnd i s) (d.activeZone i s) = true) (hn : (d.slot i).params.settleCount ≠ 0) :
    d.contactBegin i s = d.settleBegun i s := by
  have hz : (d.slot i).params.settleCount.toNat ≠ 0 := fun k => hn (BitVec.eq_of_toNat_eq k)
  rw [contactBegin_eq h, if_neg (Bool.not_eq_false _ ▸ ha), if_neg hz]

end ContactBegin

end Device

/-- Settles O10: the lookup and the two searches give the terms and the slot, and the sample meets the slot in HOVER. -/
theorem newPenTakesFreeOrOldestSlot : Obligations.NewPenTakesFreeOrOldestSlot := by
  intro s cell l n f t a i
  extract_lets d q free evicts p pens bound
  refine ⟨s.dev.pens.termsFor_iff t a, fun hup hunbound hgives hchoice => ?_⟩
  have hpens : d.pens = s.dev.pens := checkSequence_pens l n s.dev
  have hclock : d.clock = s.dev.clock := checkSequence_clock l n s.dev
  have hslot : ∀ j, d.slot j = s.dev.slot j := fun j => by rw [slot, hpens]; rfl
  have hfilter : d.filter i = s.dev.filter i := by rw [filter, checkSequence_filters]; rfl
  have hcontact : ∀ j, d.contact j = s.dev.contact j := fun j => by rw [contact, checkSequence_contacts]; rfl
  have hterms : d.pens.termsFor t = some a := by rw [hpens, PenTable.termsFor_iff]; exact hgives
  have hevicts : (∀ j, ¬d.IsFree j) ↔ evicts := by simp only [IsFree, hslot, evicts, free]
  have hchosen : d.chooseSlot = some (i, d.madeFree i) := by
    refine chooseSlot_eq ?_
    simp only [IsFree, IsOldest, age, hslot, hcontact, hclock]
    exact hchoice
  have hfree : d.slotOfPen t = none := by rw [slotOfPen_congr hpens, hunbound]
  have hattempt : d.bindAttempt t l s.dev.clock = (some i, d.takenIn i t l a s.dev.clock) := bindAttempt_eq hterms hchosen l s.dev.clock
  have hbound : bound (d.takenIn i t l a s.dev.clock) := by
    refine ⟨?_, ?_, ?_, ?_, ?_, ?_, takenIn_others i t l a s.dev.clock d⟩
    · rw [takenIn_slot_same, hslot, hpens]
      rfl
    · rw [takenIn_contact_same, hpens]
    · by_cases he : evicts
      · rw [if_pos he, ← hpens]
        exact takenIn_notices_of_evicted i t l a s.dev.clock d (hevicts.mpr he)
      · rw [if_neg he, ← hpens, ← hfilter]
        exact takenIn_notices_of_free i t l a s.dev.clock d (mt hevicts.mp he)
    · rw [takenIn_eq, ← hpens]
    · rw [takenIn_eq]
      show PenTable.mk _ _ _ _ _ _ _ _ _ _ = _
      rw [hpens]
    · rw [takenIn_eq]
  have hbslot : (d.takenIn i t l a s.dev.clock).slotOfPen t = some i := by
    refine slotOfPen_eq_some ?_ fun j hj => ?_
    · rw [takenIn_slot_same]
      exact ⟨rfl, rfl⟩
    · rw [(takenIn_others i t l a s.dev.clock d j hj).1]
      exact slotOfPen_eq_none hfree j
  have hpresence : ((d.takenIn i t l a s.dev.clock).contact i).presence = some (d.takenIn i t l a s.dev.clock).presenceTimeout := by
    rw [takenIn_contact_same, takenIn_eq]
    rfl
  have hhover : ((d.takenIn i t l a s.dev.clock).contact i).state = .hover := by rw [takenIn_contact_same]
  have harmed : ((d.takenIn i t l a s.dev.clock).slot i).captureArmed = false := by rw [takenIn_slot_same]; rfl
  refine ⟨fun hc => ⟨d.takenIn i t l a s.dev.clock, ?_, hbound⟩, fun hc ht => ⟨d.takenIn i t l a s.dev.clock, hbound, hbslot, ?_⟩⟩
  · show Host.Outcome.next (State.mk (s.dev.cellArrives cell) _) = _
    rw [cellArrives_of_proximity hup hc, arriveProximity, penProximity_of_new hfree, hattempt]
  · subst ht
    have hexec : exec (.sample cell) s = .next ⟨s.dev.cellArrives cell, s.pending⟩ := rfl
    have hsample : s.dev.cellArrives cell = (d.takenIn i f.transducer l a s.dev.clock).hoverSample i q := by
      have hpen : d.penSample l q = (d.takenIn i f.transducer l a s.dev.clock).takeSample i q := penSample_of_new (s := q) hfree hattempt
      rw [takeSample_of_hover hhover, restartPresence_of_started hpresence] at hpen
      rw [cellArrives_of_sample hup hc, arriveSample]
      exact hpen
    generalize d.takenIn i f.transducer l a s.dev.clock = b at *
    refine ⟨fun hlow => ?_, fun hlow => ?_⟩
    · rw [Becomes, hexec, hsample, hoverSample, if_pos hlow]
    · have hbegin : s.dev.cellArrives cell = b.contactBegin i q := by rw [hsample, hoverSample, if_neg hlow]
      refine ⟨fun ha => ⟨_, hexec, ?_⟩, fun ha => ⟨fun hn => ⟨_, hexec, ?_⟩, fun hn => ?_⟩⟩
      · rw [hbegin]
        exact contactBegin_of_refused harmed ha
      · rw [hbegin]
        exact contactBegin_of_no_settle harmed ha hn
      · rw [Becomes, hexec, hbegin, contactBegin_of_settle harmed ha hn]

end Sys2Proof.Machine
end

section
/-! Encodings: what is read from the bytes that a writing leaves (R4 to R7, R179). -/

namespace Sys2Proof

/-! ## Fields -/

theorem be16_byteOf (v : Word16) : be16 (byteOf v 1) (byteOf v 0) = v := by
  have h : be16 (byteOf v 1) (byteOf v 0) = v.extractLsb' 0 16 := BitVec.extractLsb'_append_extractLsb'_eq_extractLsb' rfl
  rw [h, BitVec.extractLsb'_eq_self]

theorem be24_byteOf (v : Word24) : be24 (byteOf v 2) (byteOf v 1) (byteOf v 0) = v := by
  have h1 : byteOf v 2 ++ byteOf v 1 = v.extractLsb' 8 16 := BitVec.extractLsb'_append_extractLsb'_eq_extractLsb' rfl
  have h : v.extractLsb' 8 16 ++ byteOf v 0 = v.extractLsb' 0 24 := BitVec.extractLsb'_append_extractLsb'_eq_extractLsb' rfl
  rw [be24, h1, h, BitVec.extractLsb'_eq_self]

theorem be32_byteOf (v : Word32) : be32 (byteOf v 3) (byteOf v 2) (byteOf v 1) (byteOf v 0) = v := by
  have h1 : byteOf v 3 ++ byteOf v 2 = v.extractLsb' 16 16 := BitVec.extractLsb'_append_extractLsb'_eq_extractLsb' rfl
  have h2 : v.extractLsb' 16 16 ++ byteOf v 1 = v.extractLsb' 8 24 := BitVec.extractLsb'_append_extractLsb'_eq_extractLsb' rfl
  have h : v.extractLsb' 8 24 ++ byteOf v 0 = v.extractLsb' 0 32 := BitVec.extractLsb'_append_extractLsb'_eq_extractLsb' rfl
  rw [be32, h1, h2, h, BitVec.extractLsb'_eq_self]

theorem getLsbD_lowByte {w : Nat} (b : BitVec w) {k : Nat} (h : k < 8) : (lowByte b).getLsbD k = b.getLsbD k := by
  simp [lowByte, h]

theorem getLsbD_field (b : Byte) (lo : Nat) {n k : Nat} (h : k < n) : (field b lo n).getLsbD k = b.getLsbD (lo + k) := by
  simp [field, h]

theorem getLsbD_indexWithSwitch {w : Nat} (b : BitVec w) (on : Bool) {k : Nat} (h : k < 8) :
    (indexWithSwitch b on).getLsbD k = (b.getLsbD k || (on && decide (k = 7))) := by
  have h80 : ∀ k < 8, (0x80#8).getLsbD k = decide (k = 7) := by decide
  cases on <;> simp [indexWithSwitch, getLsbD_lowByte b h, h80 k h]

/-- A narrow field alone in its byte. -/
theorem field_lowByte {w : Nat} (b : BitVec w) (h : w ≤ 8) : field (lowByte b) 0 w = b :=
  BitVec.eq_of_getLsbD_eq fun k hk => by rw [getLsbD_field _ _ hk, getLsbD_lowByte b (by omega), Nat.zero_add]

/-- An index with a switch in bit 7. -/
theorem field_indexWithSwitch {w : Nat} (b : BitVec w) (on : Bool) (h : w ≤ 7) : field (indexWithSwitch b on) 0 w = b :=
  BitVec.eq_of_getLsbD_eq fun k hk => by
    rw [getLsbD_field _ _ hk, getLsbD_indexWithSwitch b on (by omega), Nat.zero_add, decide_eq_false (by omega), Bool.and_false,
      Bool.or_false]

theorem flagAt_indexWithSwitch {w : Nat} (b : BitVec w) (on : Bool) (h : w ≤ 7) : flagAt (indexWithSwitch b on) 7 = on := by
  rw [flagAt, getLsbD_indexWithSwitch b on (by decide), BitVec.getLsbD_of_ge b 7 h]
  simp

theorem flagAt_byteBool (b : Bool) : flagAt (byteBool b) 0 = b := by cases b <;> rfl

/-! ## Bytes of several fields (section 11.1) -/

theorem field_append_low {a b : Nat} (x : BitVec a) (y : BitVec b) : (x ++ y).extractLsb' 0 b = y := BitVec.extractLsb'_append_eq_right

/-- A field that lies in the upper part. -/
theorem field_append_high {a b lo : Nat} (n : Nat) (x : BitVec a) (y : BitVec b) (h : b ≤ lo) :
    (x ++ y).extractLsb' lo n = x.extractLsb' (lo - b) n := BitVec.extractLsb'_append_eq_of_le h

theorem attributesOf_attributeByte (a : AttributeBits) : attributesOf (attributeByte a) = a := by
  obtain ⟨r, g, c⟩ := a
  have hr : field (attributeByte ⟨r, g, c⟩) 0 2 = r := field_append_low _ r
  have hg : field (attributeByte ⟨r, g, c⟩) 2 2 = g := (field_append_high 2 (c ++ g) r (by decide)).trans (field_append_low c g)
  have hc : field (attributeByte ⟨r, g, c⟩) 4 4 = c :=
    (field_append_high 4 (c ++ g) r (by decide)).trans ((field_append_high 4 c g (by decide)).trans BitVec.extractLsb'_eq_self)
  rw [attributesOf, hr, hg, hc]

theorem steeringSetOf_steeringByte (s : SteeringSet) : steeringSetOf (steeringByte s) = s := by
  have h : ∀ a b c d : Steering, steeringSetOf (steeringByte ⟨a, b, c, d⟩) = ⟨a, b, c, d⟩ := by
    intro a b c d
    cases a <;> cases b <;> cases c <;> cases d <;> rfl
  exact h _ _ _ _

/-- Two switches in the low bits of a byte. -/
theorem flagAt_two (a b : Bool) :
    flagAt (0#6 ++ BitVec.ofBool a ++ BitVec.ofBool b) 0 = b ∧ flagAt (0#6 ++ BitVec.ofBool a ++ BitVec.ofBool b) 1 = a := by
  revert a b
  decide

theorem zoneRulesOf_bytes (r : ZoneRules) : zoneRulesOf (steeringByte r.steering) (ruleByte r) r.widthCap = r := by
  have h : flagAt (ruleByte r) 0 = r.eraseAllowed ∧ flagAt (ruleByte r) 1 = r.guarded := flagAt_two r.guarded r.eraseAllowed
  rw [zoneRulesOf, steeringSetOf_steeringByte, h.1, h.2]

/-- A 12-bit field in its two bytes. -/
theorem field12_bytes (v : BitVec 12) : (be16 (byteOf (0#4 ++ v) 1) (byteOf (0#4 ++ v) 0)).extractLsb' 0 12 = v := by
  have h : be16 (byteOf (0#4 ++ v) 1) (byteOf (0#4 ++ v) 0) = 0#4 ++ v := be16_byteOf _
  rw [h]
  exact field_append_low 0#4 v

/-- The profile block read back (section 11.2). -/
theorem profileOf_profileBlock (p : Profile) :
    profileOf (profileBlock p)[0] (profileBlock p)[1] (profileBlock p)[2] (profileBlock p)[3] (profileBlock p)[4] (profileBlock p)[5]
      (profileBlock p)[6] (profileBlock p)[7] = p := by
  obtain ⟨down, up, settle, hold, smoothing, step, curve, width, erase⟩ := p
  have hsmooth : (BitVec.ofBool erase ++ smoothing ++ settle).extractLsb' 3 4 = smoothing :=
    (field_append_high 4 _ _ (by decide)).trans (field_append_low _ _)
  have herase : (BitVec.ofBool erase ++ smoothing ++ settle).getLsbD 7 = erase := by
    rw [BitVec.getLsbD_append, BitVec.getLsbD_append]
    cases erase <;> rfl
  rw [profileOf, Profile.mk.injEq]
  exact ⟨field12_bytes down, field12_bytes up, field_append_low _ settle, field_append_low curve hold, hsmooth, rfl,
    field_append_high 2 curve hold (by decide) |>.trans BitVec.extractLsb'_eq_self, rfl, herase⟩

/-! ## Commands (Figure 11-3) -/

theorem decodeCommand_readCounters (t : Word16) (g : BitVec 3) (on : Bool) :
    decodeCommand ⟨0x11, t, operandBytes [indexWithSwitch g on]⟩ = .readCounters t g on := by
  show Instr.readCounters t (field (indexWithSwitch g on) 0 3) (flagAt (indexWithSwitch g on) 7) = _
  rw [field_indexWithSwitch g on (by decide), flagAt_indexWithSwitch g on (by decide)]

theorem decodeCommand_setTime (t : Word16) (v : Word32) :
    decodeCommand ⟨0x15, t, operandBytes (bytes32 v)⟩ = .setTime t v := by
  show Instr.setTime t (be32 (byteOf v 3) (byteOf v 2) (byteOf v 1) (byteOf v 0)) = _
  rw [be32_byteOf]

theorem decodeCommand_writeAdmission (t : Word16) (i : BitVec 4) (on : Bool) (m k : Word24) (a : AttributeBits) (p : BitVec 2) :
    decodeCommand ⟨0x20, t, operandBytes ([indexWithSwitch i on] ++ bytes24 m ++ bytes24 k ++ [attributeByte a, lowByte p])⟩ =
      .writeAdmission t i on m k a p := by
  show Instr.writeAdmission t (field (indexWithSwitch i on) 0 4) (flagAt (indexWithSwitch i on) 7)
    (be24 (byteOf m 2) (byteOf m 1) (byteOf m 0)) (be24 (byteOf k 2) (byteOf k 1) (byteOf k 0)) (attributesOf (attributeByte a))
    (field (lowByte p) 0 2) = _
  rw [field_indexWithSwitch i on (by decide), flagAt_indexWithSwitch i on (by decide), be24_byteOf, be24_byteOf,
    attributesOf_attributeByte, field_lowByte p (by decide)]

theorem decodeCommand_writeProfile (t : Word16) (i : BitVec 2) (p : Profile) :
    decodeCommand ⟨0x22, t, operandBytes ([lowByte i] ++ (profileBlock p).toList)⟩ = .writeProfile t i p := by
  show Instr.writeProfile t (field (lowByte i) 0 2) (profileOf (profileBlock p)[0] (profileBlock p)[1] (profileBlock p)[2]
    (profileBlock p)[3] (profileBlock p)[4] (profileBlock p)[5] (profileBlock p)[6] (profileBlock p)[7]) = _
  rw [field_lowByte i (by decide), profileOf_profileBlock]

theorem decodeCommand_writeCurve (t : Word16) (i : BitVec 2) (k : Knots) :
    decodeCommand ⟨0x24, t, operandBytes ([lowByte i] ++ k.toList)⟩ = .writeCurve t i k := by
  obtain ⟨⟨l⟩, hl⟩ := k
  match l, hl with
  | [a, b, c, d, e, f, g, h, j], _ =>
    show Instr.writeCurve t (field (lowByte i) 0 2) #v[a, b, c, d, e, f, g, h, j] = Instr.writeCurve t i #v[a, b, c, d, e, f, g, h, j]
    rw [field_lowByte i (by decide)]

theorem decodeCommand_writeSlotParameters (t : Word16) (i : BitVec 4) (p : Profile) (a : AttributeBits) :
    decodeCommand ⟨0x27, t, operandBytes ([lowByte i] ++ (profileBlock p).toList ++ [attributeByte a])⟩ =
      .writeSlotParameters t i p a := by
  show Instr.writeSlotParameters t (field (lowByte i) 0 4) (profileOf (profileBlock p)[0] (profileBlock p)[1] (profileBlock p)[2]
    (profileBlock p)[3] (profileBlock p)[4] (profileBlock p)[5] (profileBlock p)[6] (profileBlock p)[7])
    (attributesOf (attributeByte a)) = _
  rw [field_lowByte i (by decide), profileOf_profileBlock, attributesOf_attributeByte]

theorem decodeCommand_setOffset (t : Word16) (i : BitVec 4) (x y : Word16) :
    decodeCommand ⟨0x28, t, operandBytes ([lowByte i] ++ bytes16 x ++ bytes16 y)⟩ = .setOffset t i x y := by
  show Instr.setOffset t (field (lowByte i) 0 4) (be16 (byteOf x 1) (byteOf x 0)) (be16 (byteOf y 1) (byteOf y 0)) = _
  rw [field_lowByte i (by decide), be16_byteOf, be16_byteOf]

theorem decodeCommand_setSlotEnable (t : Word16) (i : BitVec 4) (on : Bool) :
    decodeCommand ⟨0x29, t, operandBytes [lowByte i, byteBool on]⟩ = .setSlotEnable t i on := by
  show Instr.setSlotEnable t (field (lowByte i) 0 4) (flagAt (byteBool on) 0) = _
  rw [field_lowByte i (by decide), flagAt_byteBool]

theorem decodeCommand_unbind (t : Word16) (i : BitVec 4) :
    decodeCommand ⟨0x2A, t, operandBytes [lowByte i]⟩ = .unbind t i :=
  congrArg (Instr.unbind t) (field_lowByte i (by decide))

theorem decodeCommand_forceLeave (t : Word16) (i : BitVec 4) :
    decodeCommand ⟨0x2B, t, operandBytes [lowByte i]⟩ = .forceLeave t i :=
  congrArg (Instr.forceLeave t) (field_lowByte i (by decide))

theorem decodeCommand_captureOffset (t : Word16) (i : BitVec 4) (x y : Word16) :
    decodeCommand ⟨0x2C, t, operandBytes ([lowByte i] ++ bytes16 x ++ bytes16 y)⟩ = .captureOffset t i x y := by
  show Instr.captureOffset t (field (lowByte i) 0 4) (be16 (byteOf x 1) (byteOf x 0)) (be16 (byteOf y 1) (byteOf y 0)) = _
  rw [field_lowByte i (by decide), be16_byteOf, be16_byteOf]

theorem decodeCommand_cancelCapture (t : Word16) (i : BitVec 4) :
    decodeCommand ⟨0x2D, t, operandBytes [lowByte i]⟩ = .cancelCapture t i :=
  congrArg (Instr.cancelCapture t) (field_lowByte i (by decide))

theorem decodeCommand_writeSettings (t : Word16) (n : Byte) (g : Bool) :
    decodeCommand ⟨0x2E, t, operandBytes [n, byteBool g]⟩ = .writeSettings t n g :=
  congrArg (Instr.writeSettings t n) (flagAt_byteBool g)

theorem decodeCommand_writeZoneRect (t : Word16) (z : BitVec 5) (a b x y : Word16) :
    decodeCommand ⟨0x30, t, operandBytes ([lowByte z] ++ bytes16 a ++ bytes16 b ++ bytes16 x ++ bytes16 y)⟩ =
      .writeZoneRect t z a b x y := by
  show Instr.writeZoneRect t (field (lowByte z) 0 5) (be16 (byteOf a 1) (byteOf a 0)) (be16 (byteOf b 1) (byteOf b 0))
    (be16 (byteOf x 1) (byteOf x 0)) (be16 (byteOf y 1) (byteOf y 0)) = _
  rw [field_lowByte z (by decide), be16_byteOf, be16_byteOf, be16_byteOf, be16_byteOf]

theorem decodeCommand_writeZoneAttributes (t : Word16) (z : BitVec 5) (on : Bool) (r : ZoneRules) :
    decodeCommand ⟨0x31, t, operandBytes [indexWithSwitch z on, steeringByte r.steering, ruleByte r, r.widthCap]⟩ =
      .writeZoneAttributes t z on r := by
  show Instr.writeZoneAttributes t (field (indexWithSwitch z on) 0 5) (flagAt (indexWithSwitch z on) 7)
    (zoneRulesOf (steeringByte r.steering) (ruleByte r) r.widthCap) = _
  rw [field_indexWithSwitch z on (by decide), flagAt_indexWithSwitch z on (by decide), zoneRulesOf_bytes]

theorem decodeCommand_writeOpenArea (t : Word16) (r : ZoneRules) :
    decodeCommand ⟨0x32, t, operandBytes [steeringByte r.steering, ruleByte r, r.widthCap]⟩ = .writeOpenArea t r :=
  congrArg (Instr.writeOpenArea t) (zoneRulesOf_bytes r)

theorem decodeCommand_readZone (t : Word16) (s : BitVec 2) (a b : Byte) :
    decodeCommand ⟨0x33, t, operandBytes [lowByte s, a, b]⟩ = .readZone t s a b := by
  show Instr.readZone t (field (lowByte s) 0 2) a b = _
  rw [field_lowByte s (by decide)]

theorem decodeCommand_writeIdentity (t c : Word16) (b : Byte) :
    decodeCommand ⟨0x50, t, operandBytes (bytes16 c ++ [b])⟩ = .writeIdentity t c b := by
  show Instr.writeIdentity t (be16 (byteOf c 1) (byteOf c 0)) b = _
  rw [be16_byteOf]

theorem decodeCommand_setPacing (t : Word16) (p : Byte) (f : BitVec 4) :
    decodeCommand ⟨0x53, t, operandBytes [p, lowByte f]⟩ = .setPacing t p f :=
  congrArg (Instr.setPacing t p) (field_lowByte f (by decide))

theorem decodeCommand_ack (t : Word16) (k : BitVec 4) (s : BitVec 5) :
    decodeCommand ⟨0x61, t, operandBytes [lowByte k, lowByte s]⟩ = .ack t k s := by
  show Instr.ack t (field (lowByte k) 0 4) (field (lowByte s) 0 5) = _
  rw [field_lowByte k (by decide), field_lowByte s (by decide)]

theorem decodeCommand_setLevel (t : Word16) (k : BitVec 4) (l : BitVec 3) :
    decodeCommand ⟨0x62, t, operandBytes [lowByte k, lowByte l]⟩ = .setLevel t k l := by
  show Instr.setLevel t (field (lowByte k) 0 4) (field (lowByte l) 0 3) = _
  rw [field_lowByte k (by decide), field_lowByte l (by decide)]

theorem decodeCommand_setLineThreshold (t : Word16) (l : BitVec 3) :
    decodeCommand ⟨0x63, t, operandBytes [lowByte l]⟩ = .setLineThreshold t l :=
  congrArg (Instr.setLineThreshold t) (field_lowByte l (by decide))

theorem decodeCommand_of_some {x c : Command} {i : Instr} (h : some x = some c) (hx : decodeCommand x = i) : decodeCommand c = i := by
  cases h
  exact hx

/-- Every command survives its code, tag and operand bytes (R179). -/
theorem decodeCommand_encodeCommand {i : Instr} {c : Command} (hw : i.wellFormed = true) (h : encodeCommand i = some c) :
    decodeCommand c = i := by
  cases i with
  | unknownCommand code t =>
    exact decodeCommand_of_some h (Machine.decodeCommand_of_unknown (by simpa [Instr.wellFormed] using hw) t _)
  | readCounters t g on => exact decodeCommand_of_some h (decodeCommand_readCounters t g on)
  | setTime t v => exact decodeCommand_of_some h (decodeCommand_setTime t v)
  | writeAdmission t i on m k a p => exact decodeCommand_of_some h (decodeCommand_writeAdmission t i on m k a p)
  | writeProfile t i p => exact decodeCommand_of_some h (decodeCommand_writeProfile t i p)
  | writeCurve t i k => exact decodeCommand_of_some h (decodeCommand_writeCurve t i k)
  | writeSlotParameters t i p a => exact decodeCommand_of_some h (decodeCommand_writeSlotParameters t i p a)
  | setOffset t i x y => exact decodeCommand_of_some h (decodeCommand_setOffset t i x y)
  | setSlotEnable t i on => exact decodeCommand_of_some h (decodeCommand_setSlotEnable t i on)
  | unbind t i => exact decodeCommand_of_some h (decodeCommand_unbind t i)
  | forceLeave t i => exact decodeCommand_of_some h (decodeCommand_forceLeave t i)
  | captureOffset t i x y => exact decodeCommand_of_some h (decodeCommand_captureOffset t i x y)
  | cancelCapture t i => exact decodeCommand_of_some h (decodeCommand_cancelCapture t i)
  | writeSettings t n g => exact decodeCommand_of_some h (decodeCommand_writeSettings t n g)
  | writeZoneRect t z a b x y => exact decodeCommand_of_some h (decodeCommand_writeZoneRect t z a b x y)
  | writeZoneAttributes t z on r => exact decodeCommand_of_some h (decodeCommand_writeZoneAttributes t z on r)
  | writeOpenArea t r => exact decodeCommand_of_some h (decodeCommand_writeOpenArea t r)
  | readZone t s a b => exact decodeCommand_of_some h (decodeCommand_readZone t s a b)
  | writeIdentity t c b => exact decodeCommand_of_some h (decodeCommand_writeIdentity t c b)
  | setPacing t p f => exact decodeCommand_of_some h (decodeCommand_setPacing t p f)
  | ack t k s => exact decodeCommand_of_some h (decodeCommand_ack t k s)
  | setLevel t k l => exact decodeCommand_of_some h (decodeCommand_setLevel t k l)
  | setLineThreshold t l => exact decodeCommand_of_some h (decodeCommand_setLineThreshold t l)
  | readStatus | clearCounters | restart | readTime | readAdmission | readProfile | readCurve | readSlot | readSettings | apply
  | retireNow | lockLayout | readLayout | readStroke | shareEnable | shareDisable | flush | readShare | fetch =>
    exact decodeCommand_of_some h rfl
  | _ => cases h

/-! ## Cells (Figure 11-2) -/

/-- A sealed cell passes its CRC-8. -/
theorem check_sealCell (b : Vector Byte 15) : Cell.check (sealCell b) = (sealCell b)[15] := by
  obtain ⟨⟨l⟩, hl⟩ := b
  match l, hl with
  | [_, _, _, _, _, _, _, _, _, _, _, _, _, _, _], _ => rfl

theorem lane_laneByte (l : Lane) (n : BitVec 4) : index4 (field (laneByte l n) 6 2) = l := by
  have h : field (laneByte l n) 6 2 = BitVec.ofNat 2 l.val :=
    (field_append_high 2 (BitVec.ofNat 2 l.val ++ 0#2) n (by decide)).trans
      ((field_append_high 2 (BitVec.ofNat 2 l.val) 0#2 (by decide)).trans BitVec.extractLsb'_eq_self)
  rw [h]
  exact Fin.ext (Nat.mod_eq_of_lt l.isLt)

theorem sequence_laneByte (l : Lane) (n : BitVec 4) : field (laneByte l n) 0 4 = n := field_append_low _ n

theorem penEndOf_eraser (e : PenEnd) : penEndOf (decide (e = .eraser)) = e := by cases e <;> rfl

theorem proximity_ne_sample : 0xD2#8 ≠ 0xD1#8 := by decide

theorem command_ne_sample : 0xD7#8 ≠ 0xD1#8 := by decide

theorem command_ne_proximity : 0xD7#8 ≠ 0xD2#8 := by decide

theorem classify_encodeSample (l : Lane) (n : BitVec 4) (f : SampleFields) : classify (encodeSample l n f) = .sample l n f := by
  obtain ⟨t, e, b, x, y, p⟩ := f
  have hclass : classify (encodeSample l n ⟨t, e, b, x, y, p⟩) = .sample (index4 (field (laneByte l n) 6 2)) (field (laneByte l n) 0 4)
      { transducer := be24 (byteOf t 2) (byteOf t 1) (byteOf t 0),
        penEnd := penEndOf (flagAt (0#6 ++ BitVec.ofBool b ++ BitVec.ofBool (e = .eraser)) 0),
        button := flagAt (0#6 ++ BitVec.ofBool b ++ BitVec.ofBool (e = .eraser)) 1,
        x := be16 (byteOf x 1) (byteOf x 0), y := be16 (byteOf y 1) (byteOf y 0),
        pressure := (be16 (byteOf (0#4 ++ p) 1) (byteOf (0#4 ++ p) 0)).extractLsb' 0 12 } :=
    (if_neg (not_not.mpr (check_sealCell _))).trans (if_pos rfl)
  rw [hclass, lane_laneByte, sequence_laneByte, be24_byteOf, (flagAt_two b _).1, (flagAt_two b _).2, penEndOf_eraser, be16_byteOf,
    be16_byteOf, field12_bytes]

theorem classify_encodeProximity (l : Lane) (n : BitVec 4) (t : Word24) (ev : ProximityEvent) :
    classify (encodeProximity l n t ev) = .proximity l n t ev := by
  have hclass : classify (encodeProximity l n t ev) = .proximity (index4 (field (laneByte l n) 6 2)) (field (laneByte l n) 0 4)
      (be24 (byteOf t 2) (byteOf t 1) (byteOf t 0)) ev := by
    cases ev <;> exact (if_neg (not_not.mpr (check_sealCell _))).trans ((if_neg proximity_ne_sample).trans (if_pos rfl))
  rw [hclass, lane_laneByte, sequence_laneByte, be24_byteOf]

theorem classify_encodeCommandCell (c : Command) : classify (encodeCommandCell c) = .command c := by
  obtain ⟨code, tag, ⟨⟨l⟩, hl⟩⟩ := c
  match l, hl with
  | [o0, o1, o2, o3, o4, o5, o6, o7, o8, o9], hl =>
    have hclass : classify (encodeCommandCell ⟨code, tag, ⟨⟨[o0, o1, o2, o3, o4, o5, o6, o7, o8, o9]⟩, hl⟩⟩) =
        .command ⟨code, be16 (byteOf tag 1) (byteOf tag 0), #v[o0, o1, o2, o3, o4, o5, o6, o7, o8, o9]⟩ :=
      (if_neg (not_not.mpr (check_sealCell _))).trans
        ((if_neg command_ne_sample).trans ((if_neg command_ne_proximity).trans (if_pos rfl)))
    rw [hclass, be16_byteOf]

end Sys2Proof

namespace Sys2Proof.Machine

open Device

/-- A command that arrives in a cell is what its own row is at the responder (model choice, log entry 2). -/
theorem commandArrives_eq_commandStep {i : Instr} {c : Command} (hw : i.wellFormed = true) (hc : encodeCommand i = some c) (d : Device) :
    d.commandArrives c = d.commandStep i (runCommand (executed i)) := by
  by_cases hr : d.Ready
  · rw [commandArrives_of_ready hr, commandStep_of_ready hr, decodeCommand_encodeCommand hw hc, executed_of_wellFormed hw]
  · rw [commandStep_of_busy hr hc]

/-- Settles O51. -/
theorem cellsCarryTheirFields : Obligations.CellsCarryTheirFields := by
  intro l n f t ev c i s
  refine ⟨classify_encodeSample l n f, classify_encodeProximity l n t ev, classify_encodeCommandCell c, fun hup hw hc => ?_⟩
  have hcell : exec (.commandCell (encodeCommandCell c)) s = s.onDevice (cellArrives (encodeCommandCell c)) := rfl
  rw [hcell, exec_of_command hc, State.onDevice_eq, State.onDevice_eq, cellArrives_of_command hup (classify_encodeCommandCell c),
    commandArrives_eq_commandStep hw hc]

end Sys2Proof.Machine
end

section
/-! What the effects of commands leave alone and do not read: the waiting commands and the egress arbiter (R153 to R155). -/

namespace Sys2Proof.Machine

namespace Device

/-- The device with other waiting commands and another egress arbiter. -/
def beside (q : List Command) (a : EgressArbiter) (d : Device) : Device :=
  { d with responder := { d.responder with queue := q }, arbiter := a }

/-- The device with other waiting commands. -/
def withQueue (q : List Command) (d : Device) : Device := { d with responder := { d.responder with queue := q } }

variable (q : List Command) (a : EgressArbiter)

theorem withQueue_eq (d : Device) : d.withQueue q = d.beside q d.arbiter := rfl

/-- An effect that reads neither changes neither. -/
theorem arbiter_of_beside {f : Device → Device} (h : ∀ q a d, f (beside q a d) = (f d).beside q a) (d : Device) :
    (f d).arbiter = d.arbiter :=
  have hself : f d = (f d).beside d.responder.queue d.arbiter := h d.responder.queue d.arbiter d
  (congrArg Device.arbiter hself).trans rfl

/-- Both branches of a choice. -/
theorem ite_beside {c : Prop} [Decidable c] {x y x' y' : Device} (hx : x' = x.beside q a) (hy : y' = y.beside q a) :
    (if c then x' else y') = (if c then x else y).beside q a := by
  rw [hx, hy]
  exact (apply_ite (beside q a) c x y).symm

theorem fold_beside {α : Type} {f : Device → α → Device} (h : ∀ d x, f (beside q a d) x = (f d x).beside q a) (l : List α)
    (d : Device) : l.foldl f (d.beside q a) = (l.foldl f d).beside q a := by
  induction l generalizing d with
  | nil => rfl
  | cons x l ih => rw [List.foldl_cons, List.foldl_cons, h, ih]

/-! ## Framing -/

theorem buildFrame_beside (d : Device) : (d.beside q a).buildFrame = d.buildFrame.beside q a := by
  cases h : d.framer.freeBuffer with
  | none => simp only [buildFrame, beside, h]
  | some b =>
    simp only [buildFrame, beside, h]
    exact ite_beside q a rfl rfl

theorem buildWhile_beside (least n : Nat) (d : Device) : buildWhile least n (d.beside q a) = (buildWhile least n d).beside q a := by
  induction n generalizing d with
  | zero => rfl
  | succ n ih => exact ite_beside q a ((congrArg (buildWhile least n) (buildFrame_beside q a d)).trans (ih _)) rfl

theorem sixRecordTrigger_beside (d : Device) : (d.beside q a).sixRecordTrigger = d.sixRecordTrigger.beside q a :=
  ite_beside q a (buildWhile_beside q a _ _ d) rfl

theorem endDraining_beside (d : Device) : (d.beside q a).endDraining = d.endDraining.beside q a := ite_beside q a rfl rfl

theorem drain_beside (d : Device) : (d.beside q a).drain = d.drain.beside q a :=
  (congrArg endDraining (buildWhile_beside q a 1 2 d)).trans (endDraining_beside q a _)

theorem flushTrigger_beside (d : Device) : (d.beside q a).flushTrigger = d.flushTrigger.beside q a :=
  ite_beside q a rfl (ite_beside q a (buildFrame_beside q a d) rfl)

/-! ## Closes -/

theorem routeClose_beside (id n : Word16) (reason : CloseReason) (gap : Bool) (time : Word16) (d : Device) :
    (d.beside q a).routeClose id n reason gap time = (d.routeClose id n reason gap time).beside q a := by
  have hsame : (d.beside q a).router.delivery id = d.router.delivery id := rfl
  unfold routeClose
  dsimp only
  rw [hsame]
  cases d.router.delivery id with
  | none => rfl
  | some v =>
    refine ite_beside q a ?_ rfl
    exact sixRecordTrigger_beside q a { d with router := _ }

theorem releaseStroke_beside (g : Byte) (d : Device) : (d.beside q a).releaseStroke g = (d.releaseStroke g).beside q a :=
  ite_beside q a rfl rfl

theorem closeStroke_beside (i : Slot) (reason : CloseReason) (time : Word32) (d : Device) :
    (d.beside q a).closeStroke i reason time = (d.closeStroke i reason time).beside q a := by
  refine ite_beside q a ?_ rfl
  have hrest : ∀ (m : Summary) (e : Device), (((e.beside q a).setSummary i m).releaseStroke (d.context i).generation).setContext i
      StrokeContext.closed = (((e.setSummary i m).releaseStroke (d.context i).generation).setContext i StrokeContext.closed).beside q a :=
    fun m e => congrArg (setContext i StrokeContext.closed) (releaseStroke_beside q a _ (e.setSummary i m))
  have hroute := routeClose_beside q a (d.context i).id (d.context i).count reason (d.context i).laneGap (time.setWidth 16) d
  let m := summaryOf (d.context i) reason time (d.router.delivery (d.context i).id)
  exact (congrArg (fun e : Device => ((e.setSummary i m).releaseStroke (d.context i).generation).setContext i StrokeContext.closed)
    hroute).trans (hrest m _)

theorem forceFree_beside (i : Slot) (d : Device) : (d.beside q a).forceFree i = (d.forceFree i).beside q a :=
  congrArg (freeSlot i) (closeStroke_beside q a i .forced d.clock d)

theorem dropRange_beside (i : Slot) (reason : CloseReason) (d : Device) :
    (d.beside q a).dropRange i reason = (d.dropRange i reason).beside q a := by
  have hclosed := congrArg (goAway i) (closeStroke_beside q a i reason d.clock d)
  have hstate : ((d.beside q a).contact i).state = (d.contact i).state := rfl
  unfold dropRange
  rw [hstate]
  cases (d.contact i).state with
  | inking | holding => exact hclosed
  | _ => rfl

theorem retireStroke_beside (i : Slot) (d : Device) : (d.beside q a).retireStroke i = (d.retireStroke i).beside q a := by
  have hclosed : (d.beside q a).closeStroke i .retired (d.beside q a).clock = (d.closeStroke i .retired d.clock).beside q a :=
    closeStroke_beside q a i .retired d.clock d
  unfold retireStroke
  rw [hclosed]
  generalize d.closeStroke i .retired d.clock = e
  have hstate : ((e.beside q a).contact i).state = (e.contact i).state := rfl
  dsimp only
  rw [hstate]
  cases (e.contact i).state <;> rfl

/-! ## The other effects -/

theorem disableSlot_beside (i : Slot) (d : Device) : (d.beside q a).disableSlot i = (d.disableSlot i).beside q a := by
  have hfreed : (if ((d.beside q a).slot i).binding = .bound then (d.beside q a).forceFree i else d.beside q a) =
      (if (d.slot i).binding = .bound then d.forceFree i else d).beside q a := ite_beside q a (forceFree_beside q a i d) rfl
  exact congrArg (fun e : Device => e.setSlot i { e.slot i with enabled := false }) hfreed

theorem cancelCaptureAt_beside (i : Slot) (d : Device) : (d.beside q a).cancelCaptureAt i = (d.cancelCaptureAt i).beside q a :=
  ite_beside q a (ite_beside q a rfl rfl) rfl

theorem shareOffClose_beside (d : Device) (i : Slot) : (d.beside q a).shareOffClose i = (d.shareOffClose i).beside q a := by
  have hsame : (d.beside q a).router.delivery ((d.beside q a).context i).id = d.router.delivery (d.context i).id := rfl
  unfold shareOffClose
  dsimp only
  rw [hsame]
  cases d.router.delivery (d.context i).id with
  | none => rfl
  | some v => exact ite_beside q a rfl rfl

theorem shareOff_beside (d : Device) : (d.beside q a).shareOff = d.shareOff.beside q a :=
  fold_beside q a (f := shareOffClose) (shareOffClose_beside q a) allSlots d

theorem disableShare_beside (d : Device) : (d.beside q a).disableShare = d.disableShare.beside q a := by
  have h : ∀ e : Device, drain (shareOff (e.beside q a)) = (drain (shareOff e)).beside q a := fun e =>
    (congrArg drain (shareOff_beside q a e)).trans (drain_beside q a _)
  exact h { d with framer := _ }

end Device

end Sys2Proof.Machine
end

section
/-! The executions beside the command queue: what each command does with other commands waiting, and the reply it forms (R155). -/

namespace Sys2Proof.Machine

/-- `x` and `y` are what one execution makes of `d` with the commands `q` waiting and of `d` itself: `x` is `y` with `q` waiting, and a reply
is formed where the reply queue has room. -/
def Device.AnsweredAlike (q : List Command) (d x y : Device) : Prop :=
  x = y.withQueue q ∧ (d.arbiter.replies.length < 4 → d.arbiter.replies.length < y.arbiter.replies.length)

namespace Device

section
variable {q : List Command} {d : Device}

/-- An effect, then a reply. -/
theorem AnsweredAlike.reply {x y : Device} (tag : Word16) (code : Byte) (r : Result) (p : List Byte)
    (h : x = y.withQueue q := by rfl) (ha : y.arbiter = d.arbiter := by rfl) :
    AnsweredAlike q d (x.reply tag code r p) (y.reply tag code r p) := by
  subst h
  refine ⟨rfl, fun _ => ?_⟩
  simp [Device.reply, ha]

/-- An effect that reads neither the waiting commands nor the egress arbiter, then a reply. -/
theorem AnsweredAlike.effect {f : Device → Device} (h : ∀ q a d, f (beside q a d) = (f d).beside q a) (tag : Word16) (code : Byte)
    (r : Result) (p : List Byte) : AnsweredAlike q d ((f (d.withQueue q)).reply tag code r p) ((f d).reply tag code r p) := by
  have ha := arbiter_of_beside h d
  refine AnsweredAlike.reply tag code r p ?_ ha
  rw [withQueue_eq, withQueue_eq, h, ha]

/-- The share framer after such an effect does not depend on the waiting commands. -/
theorem framer_of_beside {f : Device → Device} (h : ∀ q a d, f (beside q a d) = (f d).beside q a) (q : List Command) (d : Device) :
    (f (d.withQueue q)).framer = (f d).framer :=
  have hsame : f (d.withQueue q) = (f d).beside q d.arbiter := h q d.arbiter d
  (congrArg Device.framer hsame).trans rfl

theorem AnsweredAlike.refuse (tag : Word16) (code : Byte) (r : Result) :
    AnsweredAlike q d ((d.withQueue q).refuse tag code r) (d.refuse tag code r) := AnsweredAlike.reply tag code r []

/-- Both branches of a choice. -/
theorem AnsweredAlike.ite {c : Prop} [Decidable c] {x y x' y' : Device} (hx : AnsweredAlike q d x x') (hy : AnsweredAlike q d y y') :
    AnsweredAlike q d (if c then x else y) (if c then x' else y') := by
  split
  · exact hx
  · exact hy

end

/-! ## Range reads -/

theorem replyRoom_iff (d : Device) : d.replyRoom = true ↔ d.arbiter.replies.length < 4 := decide_eq_true_iff


theorem clearItem_withQueue (q : List Command) (g : BitVec 3) (n : Nat) (d : Device) :
    (d.withQueue q).clearItem g n = (d.clearItem g n).withQueue q := by
  unfold clearItem
  split <;> rfl

theorem clearItem_arbiter (g : BitVec 3) (n : Nat) (d : Device) : (d.clearItem g n).arbiter = d.arbiter := by
  unfold clearItem
  split <;> rfl

theorem clearRead_withQueue (q : List Command) (t : ReadTarget) (n : Nat) (d : Device) :
    (d.withQueue q).clearRead t n = (d.clearRead t n).withQueue q := by
  unfold clearRead
  split
  · exact clearItem_withQueue q _ n d
  · rfl

theorem clearRead_arbiter (t : ReadTarget) (n : Nat) (d : Device) : (d.clearRead t n).arbiter = d.arbiter := by
  unfold clearRead
  split
  · exact clearItem_arbiter _ n d
  · rfl

/-- One item of a read is one reply. -/
theorem readItem_answeredAlike (q : List Command) (r : RangeRead) (d : Device) :
    AnsweredAlike q d ((d.withQueue q).readItem r) (d.readItem r) := by
  refine AnsweredAlike.ite ⟨rfl, fun _ => by simp [Device.refuse, Device.reply, Device.setReading]⟩ ⟨?_, fun _ => ?_⟩
  · exact congrArg (setReading _)
      (clearRead_withQueue q r.target r.next (d.reply r.tag r.target.code .done (d.itemPayload r.target r.next)))
  · rw [setReading_arbiter, clearRead_arbiter]
    simp [Device.reply]

theorem readBurst_withQueue (q : List Command) (n : Nat) (d : Device) : readBurst n (d.withQueue q) = (readBurst n d).withQueue q := by
  induction n generalizing d with
  | zero => rfl
  | succ n ih =>
    have hreading : (d.withQueue q).responder.reading = d.responder.reading := rfl
    have hroom : (d.withQueue q).replyRoom = d.replyRoom := rfl
    unfold readBurst
    rw [hreading, hroom]
    cases d.responder.reading with
    | none => rfl
    | some r =>
      have hitem := (congrArg (readBurst n) (readItem_answeredAlike q r d).1).trans (ih (d.readItem r))
      dsimp only
      rw [hitem]
      exact (apply_ite (withQueue q) _ _ _).symm

/-- A read takes no reply away. -/
theorem readBurst_replies (n : Nat) (d : Device) : d.arbiter.replies.length ≤ (readBurst n d).arbiter.replies.length := by
  induction n generalizing d with
  | zero => exact Nat.le_refl _
  | succ n ih =>
    unfold readBurst
    split
    · exact Nat.le_refl _
    · next r _ =>
      split
      · next hroom =>
        exact ((readItem_answeredAlike [] r d).2 ((replyRoom_iff d).mp hroom)).le.trans (ih _)
      · exact Nat.le_refl _

/-- A read of at least one item forms a reply where there is room for one. -/
theorem startRead_answeredAlike (q : List Command) {r : RangeRead} (h : r.next ≤ r.last) (d : Device) :
    AnsweredAlike q d ((d.withQueue q).startRead r) (d.startRead r) := by
  refine ⟨readBurst_withQueue q _ (d.setReading (some r)), fun hlt => ?_⟩
  have hroom : (d.setReading (some r)).replyRoom = true := (replyRoom_iff _).mpr hlt
  have hn : r.last + 1 - r.next = (r.last - r.next) + 1 := by omega
  have hstart : d.startRead r = readBurst (r.last - r.next) ((d.setReading (some r)).readItem r) := by
    rw [startRead, hn]
    exact if_pos hroom
  rw [hstart]
  exact ((readItem_answeredAlike q r (d.setReading (some r))).2 hlt).trans_le (readBurst_replies _ _)

theorem tableRead_answeredAlike (q : List Command) (tag : Word16) (t : ReadTarget) (x y : Byte) (n : Nat) (d : Device) :
    AnsweredAlike q d ((d.withQueue q).tableRead tag t x y n) (d.tableRead tag t x y n) := by
  by_cases h : rangeWithin x y n = true
  · have hle : x.toNat ≤ y.toNat := by
      simp only [rangeWithin, Bool.and_eq_true, decide_eq_true_eq] at h
      exact h.1
    have hread := startRead_answeredAlike q (r := ⟨tag, t, x.toNat, y.toNat⟩) hle d
    simpa only [tableRead, h, if_true] using hread
  · simpa only [tableRead, h, if_false, Bool.false_eq_true] using AnsweredAlike.refuse tag t.code .range

/-! ## Commands on a slot or the staging bank -/

theorem onBound_answeredAlike (q : List Command) (tag : Word16) (code : Byte) (slot : BitVec 4) {f : Slot → Device → Device}
    (h : ∀ i q a d, f i (beside q a d) = (f i d).beside q a) (d : Device) :
    AnsweredAlike q d ((d.withQueue q).onBound tag code slot f) (d.onBound tag code slot f) := by
  unfold onBound
  cases slotOf slot with
  | none => exact AnsweredAlike.refuse tag code .range
  | some i => exact AnsweredAlike.ite (AnsweredAlike.refuse tag code .state) (AnsweredAlike.effect (h i) tag code .done [])

theorem writeStaging_answeredAlike (q : List Command) (tag : Word16) (code : Byte) (f : Bank → Bank) (d : Device) :
    AnsweredAlike q d ((d.withQueue q).writeStaging tag code f) (d.writeStaging tag code f) :=
  AnsweredAlike.ite (AnsweredAlike.refuse tag code .locked)
    (AnsweredAlike.ite (AnsweredAlike.refuse tag code .busy) (AnsweredAlike.reply tag code .done _))

end Device

open Device

/-! ## The executions -/

variable (q : List Command)

theorem runReadZone_answeredAlike (t : Word16) (s : BitVec 2) (x y : Byte) (d : Device) :
    AnsweredAlike q d (runReadZone t s x y (d.withQueue q)) (runReadZone t s x y d) := by
  by_cases h : (decide (1 < s.toNat) || !rangeWithin x y 16) = true
  · simpa only [runReadZone, h, if_true] using AnsweredAlike.refuse t 0x33 .range
  · have hle : x.toNat ≤ y.toNat := by
      simp only [rangeWithin, Bool.or_eq_true, Bool.not_eq_true', not_or, Bool.not_eq_false, Bool.and_eq_true, decide_eq_true_eq] at h
      exact h.2.1
    have hread := startRead_answeredAlike q (r := ⟨t, .zone (s = 1), x.toNat, y.toNat⟩) hle d
    have hrest := AnsweredAlike.ite (c := s = 1 ∧ d.zones.apply = .retiring) (AnsweredAlike.refuse (q := q) t 0x33 .busy) hread
    rw [runReadZone, runReadZone, if_neg h, if_neg h]
    exact hrest

theorem runReadCounters_answeredAlike (t : Word16) (g : BitVec 3) (on : Bool) (d : Device) :
    AnsweredAlike q d (runReadCounters t g on (d.withQueue q)) (runReadCounters t g on d) :=
  AnsweredAlike.ite (AnsweredAlike.refuse t 0x11 .range)
    (startRead_answeredAlike q (r := ⟨t, .counters g on, 0, groupItems g - 1⟩) (Nat.zero_le _) d)

theorem runSetSlotEnable_answeredAlike (t : Word16) (i : BitVec 4) (on : Bool) (d : Device) :
    AnsweredAlike q d (runSetSlotEnable t i on (d.withQueue q)) (runSetSlotEnable t i on d) := by
  unfold runSetSlotEnable
  cases slotOf i with
  | none => exact AnsweredAlike.refuse t 0x29 .range
  | some i =>
    cases on with
    | true => exact AnsweredAlike.reply t 0x29 .done []
    | false => exact AnsweredAlike.effect (fun q a => disableSlot_beside q a i) t 0x29 .done []

theorem runRetireNow_answeredAlike (t : Word16) (d : Device) :
    AnsweredAlike q d (runRetireNow t (d.withQueue q)) (runRetireNow t d) := by
  have hfold := AnsweredAlike.effect (q := q) (d := d) (f := fun e => d.retiringSlots.foldl retireStroke e)
    (fun q a e => fold_beside q a (fun e i => retireStroke_beside q a i e) d.retiringSlots e) t 0x35 .done [byteNat d.retiringSlots.length]
  exact AnsweredAlike.ite (AnsweredAlike.refuse t 0x35 .locked)
    (AnsweredAlike.ite (AnsweredAlike.reply t 0x35 .done [0]) hfold)

theorem runShareEnable_answeredAlike (t : Word16) (d : Device) :
    AnsweredAlike q d (runShareEnable t (d.withQueue q)) (runShareEnable t d) := by
  have hstate : (d.withQueue q).framer.state = d.framer.state := rfl
  unfold runShareEnable
  rw [hstate]
  cases d.framer.state with
  | draining => exact AnsweredAlike.refuse t 0x51 .busy
  | enabled => exact AnsweredAlike.reply t 0x51 .done _
  | disabled => exact AnsweredAlike.ite (AnsweredAlike.reply t 0x51 .done _) (AnsweredAlike.refuse t 0x51 .state)

theorem runShareDisable_answeredAlike (t : Word16) (d : Device) :
    AnsweredAlike q d (runShareDisable t (d.withQueue q)) (runShareDisable t d) := by
  have hstate : (d.withQueue q).framer.state = d.framer.state := rfl
  have hafter : (d.withQueue q).disableShare.framer = d.disableShare.framer := framer_of_beside disableShare_beside q d
  unfold runShareDisable
  rw [hstate]
  cases d.framer.state with
  | enabled =>
    dsimp only
    rw [hafter]
    exact AnsweredAlike.effect disableShare_beside t 0x52 .done _
  | _ => exact AnsweredAlike.reply t 0x52 .done _

/-- A flush trigger, then the period begun again (R145). -/
def Device.flushed (d : Device) : Device := { d.flushTrigger with framer := d.flushTrigger.framer.beginPeriod 0 }

theorem Device.flushed_beside (q : List Command) (a : EgressArbiter) (d : Device) : (d.beside q a).flushed = d.flushed.beside q a := by
  unfold flushed
  rw [flushTrigger_beside]
  rfl

theorem runFlush_answeredAlike (t : Word16) (d : Device) : AnsweredAlike q d (runFlush t (d.withQueue q)) (runFlush t d) := by
  have hstate : (d.withQueue q).framer.state = d.framer.state := rfl
  have hafter : (d.withQueue q).flushed.framer = d.flushed.framer := framer_of_beside flushed_beside q d
  unfold runFlush
  rw [hstate]
  cases d.framer.state with
  | enabled =>
    change AnsweredAlike q d ((d.withQueue q).flushed.reply t 0x54 .done
      [byteNat d.flushRecords, byteBool (d.withQueue q).flushed.framer.pendingFlush]) _
    rw [hafter]
    have hflushed := AnsweredAlike.effect (q := q) (d := d) flushed_beside t 0x54 .done
      [byteNat d.flushRecords, byteBool d.flushed.framer.pendingFlush]
    exact hflushed
  | _ => exact AnsweredAlike.reply t 0x54 .done _

theorem runAck_answeredAlike (t : Word16) (k : BitVec 4) (j : BitVec 5) (d : Device) :
    AnsweredAlike q d (runAck t k j (d.withQueue q)) (runAck t k j d) := by
  have hnotices : (d.withQueue q).notices = d.notices := rfl
  unfold runAck
  rw [hnotices]
  cases kindOf k with
  | none => exact AnsweredAlike.refuse t 0x61 .range
  | some k =>
    cases subjectOf j with
    | none => exact AnsweredAlike.refuse t 0x61 .range
    | some j =>
      dsimp only
      cases d.notices.entries.find? (NoticeEntry.names k j) with
      | none => exact AnsweredAlike.refuse t 0x61 .state
      | some e => exact AnsweredAlike.reply t 0x61 .done _

/-- The command's execution with other commands waiting, RESTART and READ STATUS apart. -/
theorem runCommand_answeredAlike {i : Instr} {c : Command} (hc : encodeCommand i = some c) (hrestart : ∀ t, i ≠ .restart t)
    (hstatus : ∀ t, i ≠ .readStatus t) (d : Device) : AnsweredAlike q d (runCommand i (d.withQueue q)) (runCommand i d) := by
  cases i with
  | restart t => exact absurd rfl (hrestart t)
  | readStatus t => exact absurd rfl (hstatus t)
  | unknownCommand code t => exact AnsweredAlike.refuse t code .unknown
  | readCounters t g on => exact runReadCounters_answeredAlike q t g on d
  | clearCounters t => exact AnsweredAlike.reply (y := d.clearCounters) t 0x12 .done []
  | readTime t => exact AnsweredAlike.reply t 0x14 .done _
  | setTime t v => exact AnsweredAlike.reply t 0x15 .done _
  | writeAdmission t i e m k a p =>
    show AnsweredAlike q d (runWriteAdmission t i e m k a p (d.withQueue q)) (runWriteAdmission t i e m k a p d)
    unfold runWriteAdmission
    split
    · exact AnsweredAlike.reply t 0x20 .done []
    · exact AnsweredAlike.refuse t 0x20 .range
  | readAdmission t x y => exact tableRead_answeredAlike q t .admission x y 7 d
  | writeProfile t i p => exact AnsweredAlike.reply t 0x22 .done []
  | readProfile t x y => exact tableRead_answeredAlike q t .profile x y 3 d
  | writeCurve t i k => exact AnsweredAlike.reply t 0x24 .done []
  | readCurve t x y => exact tableRead_answeredAlike q t .curve x y 3 d
  | readSlot t x y p => exact AnsweredAlike.ite (AnsweredAlike.refuse t 0x26 .range) (tableRead_answeredAlike q t (.slot p) x y 11 d)
  | writeSlotParameters t i p a =>
    show AnsweredAlike q d (runWriteSlotParameters t i p a (d.withQueue q)) (runWriteSlotParameters t i p a d)
    unfold runWriteSlotParameters
    split
    · exact AnsweredAlike.reply t 0x27 .done []
    · exact AnsweredAlike.refuse t 0x27 .range
  | setOffset t i x y =>
    show AnsweredAlike q d (runSetOffset t i x y (d.withQueue q)) (runSetOffset t i x y d)
    unfold runSetOffset
    split
    · exact AnsweredAlike.refuse t 0x28 .range
    · exact AnsweredAlike.reply t 0x28 .done _
  | setSlotEnable t i on => exact runSetSlotEnable_answeredAlike q t i on d
  | unbind t i => exact onBound_answeredAlike q t 0x2A i (fun i q a => forceFree_beside q a i) d
  | forceLeave t i => exact onBound_answeredAlike q t 0x2B i (fun i q a => dropRange_beside q a i .forced) d
  | captureOffset t i x y =>
    exact onBound_answeredAlike q t 0x2C i
      (f := fun i d => d.setSlot i { d.slot i with targetX := x, targetY := y, captureArmed := true }) (fun _ _ _ _ => rfl) d
  | cancelCapture t i => exact onBound_answeredAlike q t 0x2D i (fun i q a => cancelCaptureAt_beside q a i) d
  | writeSettings t n g => exact AnsweredAlike.reply t 0x2E .done []
  | readSettings t => exact AnsweredAlike.reply t 0x2F .done _
  | writeZoneRect t z a b x y =>
    show AnsweredAlike q d (runWriteZoneRect t z a b x y (d.withQueue q)) (runWriteZoneRect t z a b x y d)
    unfold runWriteZoneRect
    split
    · exact AnsweredAlike.refuse t 0x30 .range
    · exact writeStaging_answeredAlike q t 0x30 _ d
  | writeZoneAttributes t z on r =>
    show AnsweredAlike q d (runWriteZoneAttributes t z on r (d.withQueue q)) (runWriteZoneAttributes t z on r d)
    unfold runWriteZoneAttributes
    split
    · exact AnsweredAlike.refuse t 0x31 .range
    · exact writeStaging_answeredAlike q t 0x31 _ d
  | writeOpenArea t r => exact writeStaging_answeredAlike q t 0x32 (fun b => { b with openArea := r }) d
  | readZone t s x y => exact runReadZone_answeredAlike q t s x y d
  | apply t =>
    exact AnsweredAlike.ite (AnsweredAlike.refuse t 0x34 .locked)
      (AnsweredAlike.ite (AnsweredAlike.refuse t 0x34 .busy) (AnsweredAlike.reply t 0x34 .done _))
  | retireNow t => exact runRetireNow_answeredAlike q t d
  | lockLayout t => exact AnsweredAlike.reply t 0x36 .done []
  | readLayout t => exact AnsweredAlike.reply t 0x37 .done _
  | readStroke t x y p => exact AnsweredAlike.ite (AnsweredAlike.refuse t 0x40 .range) (tableRead_answeredAlike q t (.stroke p) x y 11 d)
  | writeIdentity t c b =>
    exact AnsweredAlike.ite (AnsweredAlike.reply t 0x50 .written _) (AnsweredAlike.reply t 0x50 .done _)
  | shareEnable t => exact runShareEnable_answeredAlike q t d
  | shareDisable t => exact runShareDisable_answeredAlike q t d
  | setPacing t p f => exact AnsweredAlike.reply t 0x53 .done _
  | flush t => exact runFlush_answeredAlike q t d
  | readShare t => exact AnsweredAlike.reply t 0x55 .done _
  | fetch t => exact AnsweredAlike.reply t 0x60 .done _
  | ack t k j => exact runAck_answeredAlike q t k j d
  | setLevel t k l =>
    show AnsweredAlike q d (runSetLevel t k l (d.withQueue q)) (runSetLevel t k l d)
    unfold runSetLevel
    split
    · exact AnsweredAlike.refuse t 0x62 .range
    · exact AnsweredAlike.reply t 0x62 .done _
  | setLineThreshold t l =>
    exact AnsweredAlike.ite (AnsweredAlike.refuse t 0x63 .range) (AnsweredAlike.reply t 0x63 .done _)
  | _ => cases hc

end Sys2Proof.Machine
end

section
/-! The command queue: what is taken, what waits, what is dropped (R6, R153 to R155). -/

namespace Sys2Proof.Machine

open Device

/-! ## What a command decodes to -/

/-- A command decodes to a command row of its own code. -/
theorem encodeCommand_decodeCommand_code (c : Command) : (encodeCommand (decodeCommand c)).map (·.code) = some c.code := by
  obtain ⟨code, t, o⟩ := c
  have hk : code = BitVec.ofNat 8 code.toNat := by simp
  unfold decodeCommand
  dsimp only
  generalize code.toNat = k at hk ⊢
  split
  case h_42 => rfl
  all_goals
    rw [hk]
    rfl

theorem encodeCommand_decodeCommand (c : Command) : ∃ e, encodeCommand (decodeCommand c) = some e := by
  obtain ⟨e, he, -⟩ := Option.map_eq_some_iff.mp (encodeCommand_decodeCommand_code c)
  exact ⟨e, he⟩

/-- A command whose code is not that of a row does not decode to that row. -/
theorem decodeCommand_ne {c e : Command} {i : Instr} (he : encodeCommand i = some e) (h : c.code ≠ e.code) : decodeCommand c ≠ i := by
  intro hi
  have hcode := encodeCommand_decodeCommand_code c
  rw [hi, he] at hcode
  exact h (Option.some.inj hcode).symm

theorem decodeCommand_restart {c : Command} (h : c.code = 0x13) : decodeCommand c = .restart c.tag := by
  obtain ⟨code, t, o⟩ := c
  cases h
  rfl

theorem decodeCommand_readStatus {c : Command} (h : c.code = 0x10) : decodeCommand c = .readStatus c.tag := by
  obtain ⟨code, t, o⟩ := c
  cases h
  rfl

theorem decodeCommand_ne_restart {c : Command} (h : c.code ≠ 0x13) (t : Word16) : decodeCommand c ≠ .restart t :=
  decodeCommand_ne (e := ⟨0x13, t, operandBytes []⟩) rfl h

theorem decodeCommand_ne_readStatus {c : Command} (h : c.code ≠ 0x10) (t : Word16) : decodeCommand c ≠ .readStatus t :=
  decodeCommand_ne (e := ⟨0x10, t, operandBytes []⟩) rfl h

/-! ## The execution of a waiting command -/

theorem runDecoded_answeredAlike {c : Command} (hstatus : c.code ≠ 0x10) (hrestart : c.code ≠ 0x13) (q : List Command) (d : Device) :
    AnsweredAlike q d (runCommand (decodeCommand c) (d.withQueue q)) (runCommand (decodeCommand c) d) := by
  obtain ⟨e, he⟩ := encodeCommand_decodeCommand c
  exact runCommand_answeredAlike q he (decodeCommand_ne_restart hrestart) (decodeCommand_ne_readStatus hstatus) d

/-- Every command but RESTART adds a reply where there is room for one. -/
theorem runDecoded_replies {c : Command} (hrestart : c.code ≠ 0x13) {d : Device} (h : d.arbiter.replies.length < 4) :
    d.arbiter.replies.length < (runCommand (decodeCommand c) d).arbiter.replies.length := by
  by_cases hstatus : c.code = 0x10
  · rw [decodeCommand_readStatus hstatus]
    have happend : (runCommand (.readStatus c.tag) d).arbiter.replies =
        d.arbiter.replies ++ [formReply c.tag 0x10 .done d.status d.statusPayload] := rfl
    rw [happend, List.length_append]
    exact Nat.lt_succ_self _
  · exact (runDecoded_answeredAlike hstatus hrestart [] d).2 h

/-- What else waits does not matter to a command but READ STATUS and RESTART. -/
theorem runDecoded_withQueue {c : Command} (hstatus : c.code ≠ 0x10) (hrestart : c.code ≠ 0x13) (q : List Command) (d : Device) :
    runCommand (decodeCommand c) (d.withQueue q) = (runCommand (decodeCommand c) (d.withQueue [])).withQueue q := by
  rw [(runDecoded_answeredAlike hstatus hrestart q d).1, (runDecoded_answeredAlike hstatus hrestart [] d).1]
  rfl

/-- With one place left in the reply queue the taking test takes one command. -/
theorem takingTest_of_last_place {c : Command} {waiting : List Command} {d : Device} (hq : d.responder.queue = c :: waiting)
    (hr : d.responder.reading = none) (hl : d.arbiter.replies.length = 3) :
    d.takingTest = runCommand (decodeCommand c) (d.withQueue waiting) ∧
      (runCommand (decodeCommand c) (d.withQueue waiting)).responder.queue = if c.code = 0x13 then [] else waiting := by
  have htake : d.takingTest = (runCommand (decodeCommand c) (d.withQueue waiting)).takingTest :=
    d.takingTest_takes.2 c waiting hq hr (by omega)
  rw [htake]
  by_cases hc : c.code = 0x13
  · have hempty : (runCommand (decodeCommand c) (d.withQueue waiting)).responder.queue = [] := by
      rw [decodeCommand_restart hc]
      exact runRestart_waiting c.tag _
    rw [if_pos hc]
    exact ⟨takingTest_of_empty hempty, hempty⟩
  · have hgrow : 3 < (runCommand (decodeCommand c) (d.withQueue waiting)).arbiter.replies.length :=
      hl ▸ runDecoded_replies hc (d := d.withQueue waiting) (by simp [withQueue, hl])
    have hfull : (runCommand (decodeCommand c) (d.withQueue waiting)).mayTake = false :=
      Bool.eq_false_iff.mpr fun hm => Nat.not_lt.mpr (Nat.succ_le_of_lt hgrow) ((mayTake_iff _).mp hm).2
    rw [if_neg hc]
    exact ⟨takingTest_of_full hfull, runCommand_waiting (decodeCommand_ne_restart hc) (d.withQueue waiting)⟩

/-! ## The arrival of a command -/

theorem commandArrives_of_room {d : Device} (h : d.responder.queue.length < 8) (c : Command) :
    d.commandArrives c = (d.withQueue (d.responder.queue ++ [c])).takingTest := if_pos h

theorem commandArrives_of_overrun {d : Device} (h : 8 ≤ d.responder.queue.length) (c : Command) :
    d.commandArrives c = { d with responder := { d.responder with overrun := true }, notices := d.notices.post .commandOverrun none } :=
  if_neg (Nat.not_lt.mpr h)

/-- A command that may not be taken waits at the tail. -/
theorem commandArrives_of_blocked {d : Device} (hb : d.responder.reading ≠ none ∨ 4 ≤ d.arbiter.replies.length)
    (h : d.responder.queue.length < 8) (c : Command) : d.commandArrives c = d.withQueue (d.responder.queue ++ [c]) := by
  rw [commandArrives_of_room h]
  exact (takingTest_takes (d.withQueue (d.responder.queue ++ [c]))).1 (.inr hb)

theorem not_ready_of_blocked {d : Device} (hb : d.responder.reading ≠ none ∨ 4 ≤ d.arbiter.replies.length) : ¬d.Ready := by
  rintro ⟨hr, -, hl⟩
  exact hb.elim (· hr) (Nat.not_le.mpr hl)

theorem not_ready_of_overrun {d : Device} (h : 8 ≤ d.responder.queue.length) : ¬d.Ready := by
  rintro ⟨-, hq, -⟩
  simp [hq] at h

theorem becomes_of_commandCell {s : State} {cell : Cell} {c : Command} (hup : s.dev.receiver.link = .up)
    (hcell : classify cell = .command c) : Becomes (.commandCell cell) s (s.dev.commandArrives c) := by
  have hexec : exec (.commandCell cell) s = s.onDevice (cellArrives cell) := rfl
  rw [Becomes, hexec, State.onDevice_eq, cellArrives_of_command hup hcell]

/-- A command row that must wait is a command that arrives (model choice, log entry 2). -/
theorem becomes_of_busy {i : Instr} {c : Command} {s : State} (hc : encodeCommand i = some c) (hb : ¬s.dev.Ready) :
    Becomes i s (s.dev.commandArrives c) := by
  rw [Becomes, exec_of_command hc, State.onDevice_eq, commandStep_of_busy hb hc]

/-- Settles O49. -/
theorem commandsQueueAndOverrun : Obligations.CommandsQueueAndOverrun := by
  intro s cell c i waiting d q first alone entered full
  have htaken (hl : q.length < 8) : entered.TakesOldest (d.commandArrives c) := by
    rw [commandArrives_of_room hl]
    exact takingTest_takes entered
  refine ⟨takingTest_takes d, takingTest_of_last_place, fun hstatus hrestart => runDecoded_withQueue hstatus hrestart waiting d,
    fun hup hcell => ?_, fun hc hb hl => ⟨_, becomes_of_busy hc hb, htaken hl⟩, fun hc hl => ?_, fun hc hb hl => ?_⟩
  · have harrive := becomes_of_commandCell hup hcell
    refine ⟨fun hl => ⟨_, harrive, htaken hl⟩, fun hr => ?_, fun hl => ?_, fun hb hl => ?_⟩
    · rwa [commandArrives_of_ready hr] at harrive
    · rwa [commandArrives_of_overrun hl] at harrive
    · rwa [commandArrives_of_blocked hb hl] at harrive
  · have harrive := becomes_of_busy hc (not_ready_of_overrun hl)
    rwa [commandArrives_of_overrun hl] at harrive
  · have harrive := becomes_of_busy hc (not_ready_of_blocked hb)
    rwa [commandArrives_of_blocked hb hl] at harrive

end Sys2Proof.Machine
end

section
/-! SUPPORT. What a step does to the values that pens and strokes hold, said once: `Device.values` names these values, `Device.Act` the
operations that move them, and `step_acts` says that every step is a chain of such operations. An invariant of these values is then kept
by every step as soon as each operation keeps it (`Device.Acts.keeps`). -/

namespace Sys2Proof.Machine

/-- The values that pens and strokes hold: slots, profiles, curves, presence count, contact fields, stroke contexts, filter values and the
pacer's period. -/
def Device.values (d : Device) :=
  (d.pens.slots, d.pens.profiles, d.pens.curves, d.pens.presenceCount, d.contacts, d.strokes.contexts, d.filters, d.framer.period)

/-- The operations that move these values; `aside` is all that leaves them alone. -/
inductive Device.Act : Device → Device → Prop
  | aside {d e : Device} (h : e.values = d.values) : Act d e
  | reset (d : Device) (v : Bool) : Act d (hardResetDevice v)
  | restart (d : Device) : Act d d.restarted
  | tick (d : Device) : Act d d.tick
  | laneGap (d : Device) (l : Lane) : Act d (d.markLaneGap l)
  | seen (d : Device) (i : Slot) (l : Lane) (stamp : Word32) : Act d (d.seen i l stamp)
  | bind {d : Device} {t : Word24} (h : d.slotOfPen t = none) (l : Lane) (stamp : Word32) : Act d (d.bindAttempt t l stamp).2
  | sample (d : Device) (i : Slot) (s : Sample) : Act d (d.takeSample i s)
  | enter (d : Device) (i : Slot) : Act d (d.takeEnter i)
  | leave (d : Device) (i : Slot) (stamp : Word32) : Act d (d.takeLeave i stamp)
  | drop (d : Device) (i : Slot) (reason : CloseReason) : Act d (d.dropRange i reason)
  | liftHold (d : Device) (i : Slot) : Act d (d.liftHoldExpires i)
  | retire (d : Device) (i : Slot) : Act d (d.retireStroke i)
  | free (d : Device) (i : Slot) : Act d (d.forceFree i)
  | enable (d : Device) (i : Slot) : Act d (d.setSlot i { d.slot i with enabled := true })
  | disable (d : Device) (i : Slot) : Act d (d.disableSlot i)
  | arm (d : Device) (i : Slot) (x y : Word16) : Act d (d.setSlot i { d.slot i with targetX := x, targetY := y, captureArmed := true })
  | cancel (d : Device) (i : Slot) : Act d (d.cancelCaptureAt i)
  | offset (d : Device) (i : Slot) (x y : Int) :
      Act d (d.setSlot i { d.slot i with offsetX := clampOffset x, offsetY := clampOffset y })
  | parameters (d : Device) (i : Slot) (p : Profile) (role : Role) (group : Group) (colour : BitVec 4) :
      Act d (d.setSlot i { d.slot i with params := clampProfile p, role := role, group := group, colour := colour })
  | profile (d : Device) (i : Fin 4) (p : Profile) :
      Act d { d with pens := { d.pens with profiles := d.pens.profiles.set i (clampProfile p) } }
  | curve (d : Device) (i : Fin 4) (k : Knots) : Act d { d with pens := { d.pens with curves := d.pens.curves.set i (clampKnots k) } }
  | settings (d : Device) (n : Byte) (guest : Bool) :
      Act d { d with pens := { d.pens with presenceCount := atLeastOne n, guestAdmission := guest } }
  | clock (d : Device) (v by' : Word32) :
      Act d { d with clock := v, pens := { d.pens with slots := d.pens.slots.map (PenSlot.shiftSeen by') } }
  | pacing (d : Device) (p : Byte) (fine : BitVec 4) :
      Act d { d with framer := { d.framer with period := atLeastOne p, fine := fine } }

/-- A chain of such operations. -/
abbrev Device.Acts : Device → Device → Prop := Relation.ReflTransGen Device.Act

namespace Device

theorem Act.acts {d e : Device} (h : d.Act e) : d.Acts e := .single h

theorem Acts.aside {d e : Device} (h : e.values = d.values) : d.Acts e := .single (.aside h)

theorem Acts.ite {d a b : Device} {c : Prop} [Decidable c] (h : d.Acts a) (k : d.Acts b) : d.Acts (if c then a else b) := by
  split
  · exact h
  · exact k

/-- What stands behind a change of other parts. -/
theorem Acts.behind {d e f : Device} (k : e.Acts f) (h : e.values = d.values := by rfl) : d.Acts f := .head (.aside h) k

/-- An operation, and a reply behind it. -/
theorem Acts.reply {d e : Device} (h : d.Acts e) (tag : Word16) (code : Byte) (r : Result) (p : List Byte) :
    d.Acts (e.reply tag code r p) := h.tail (.aside rfl)

theorem Acts.fold {α : Type} {f : Device → α → Device} (h : ∀ e a, Acts e (f e a)) (l : List α) (d : Device) :
    d.Acts (l.foldl f d) := by
  induction l generalizing d with
  | nil => exact .refl
  | cons a l ih => exact (h d a).trans (ih _)

/-- What every operation keeps, a chain of them keeps. -/
theorem Acts.keeps {P : Device → Prop} (hP : ∀ d e : Device, d.Act e → P d → P e) {d e : Device} (h : d.Acts e) (k : P d) : P e := by
  induction h with
  | refl => exact k
  | tail _ ha ih => exact hP _ _ ha ih

/-! ## What leaves the values alone -/

theorem reply_values (tag : Word16) (code : Byte) (r : Result) (p : List Byte) (d : Device) :
    (d.reply tag code r p).values = d.values := rfl

theorem values_ite {d a b : Device} {c : Prop} [Decidable c] (h : a.values = d.values) (k : b.values = d.values) :
    (if c then a else b).values = d.values := by
  split
  · exact h
  · exact k

/-- Framing moves the share queue and the frame buffers, and keeps the period. -/
theorem Framed.values {d e : Device} (h : d.Framed e) : e.values = d.values := by
  obtain ⟨heq, -, -, -, -, -, -, hperiod, -⟩ := h
  unfold Device.values
  rw [hperiod, heq]

theorem routeOpen_values (o : OpenRecord) (st : Steering) (d : Device) : (d.routeOpen o st).values = d.values := by
  unfold routeOpen
  extract_lets r oa oi sa si orf srf v d1 d2 d3
  have h3 : d3.values = d.values := values_ite (c := srf = true) (values_ite (c := orf = true) rfl rfl) (values_ite rfl rfl)
  exact values_ite ((sixRecordTrigger_framed d3).values.trans h3) h3

theorem routeSeg_values (i : Slot) (s : SegRecord) (d : Device) : (d.routeSeg i s).values = d.values := by
  have hshare : ∀ e : Device, (e.offerShareSeg i s).values = e.values := fun e =>
    values_ite (sixRecordTrigger_framed { e with router := _ }).values rfl
  unfold routeSeg
  split
  · rfl
  · extract_lets d1
    have h1 : d1.values = d.values := values_ite rfl rfl
    exact values_ite ((hshare d1).trans h1) h1

theorem routeClose_values (id n : Word16) (reason : CloseReason) (gap : Bool) (time : Word16) (d : Device) :
    (d.routeClose id n reason gap time).values = d.values := by
  unfold routeClose
  extract_lets r
  split
  · rfl
  · exact values_ite (sixRecordTrigger_framed { d with router := _ }).values rfl

theorem releaseStroke_values (g : Byte) (d : Device) : (d.releaseStroke g).values = d.values := by
  rw [releaseStroke_rest]
  rfl

theorem flushTrigger_values (d : Device) : d.flushTrigger.values = d.values :=
  values_ite rfl (values_ite (buildFrame_framed d).values rfl)

theorem drain_values (d : Device) : d.drain.values = d.values :=
  have hend : ∀ e : Device, e.endDraining.values = e.values := fun _ => values_ite rfl rfl
  (hend _).trans (buildWhile_framed 1 2 d).values

theorem shareOffClose_values (d : Device) (i : Slot) : (d.shareOffClose i).values = d.values := by
  unfold shareOffClose
  extract_lets k
  split
  · rfl
  · exact values_ite rfl rfl

theorem disableShare_values (d : Device) : d.disableShare.values = d.values :=
  (drain_values _).trans (fold_keeps (f := Device.values) shareOffClose_values allSlots _)

theorem takeFreedBuffer_values (d : Device) : d.takeFreedBuffer.values = d.values := by
  unfold takeFreedBuffer
  split
  · exact (sixRecordTrigger_framed _).values.trans (values_ite (buildFrame_framed d).values rfl)
  · exact drain_values d
  · rfl

theorem pacerExpires_values (d : Device) : d.pacerExpires.values = d.values :=
  values_ite (flushTrigger_values d) rfl

theorem overlayBegins_values (ready : Bool) (d : Device) : (d.overlayBegins ready).values = d.values := by
  unfold overlayBegins
  split <;> rfl

theorem egressBegins_values (ready : Bool) (d : Device) : (d.egressBegins ready).values = d.values := by
  unfold egressBegins frameBegins
  repeat' split
  all_goals rfl

theorem frameCompletes_values (d : Device) : d.frameCompletes.values = d.values := by
  unfold frameCompletes
  split
  · exact takeFreedBuffer_values _
  · rfl

/-! ## Range reads -/

theorem clearRead_values (t : ReadTarget) (n : Nat) (d : Device) : (d.clearRead t n).values = d.values := by
  unfold clearRead
  split
  · unfold clearItem
    split <;> rfl
  · rfl

theorem readItem_values (r : RangeRead) (d : Device) : (d.readItem r).values = d.values :=
  values_ite rfl (clearRead_values r.target r.next (d.reply _ _ _ _))

theorem readBurst_values (n : Nat) (d : Device) : (readBurst n d).values = d.values := by
  induction n generalizing d with
  | zero => rfl
  | succ n ih =>
    unfold readBurst
    split
    · rfl
    · exact values_ite ((ih _).trans (readItem_values _ d)) rfl

theorem startRead_values (r : RangeRead) (d : Device) : (d.startRead r).values = d.values := readBurst_values _ (d.setReading (some r))

theorem tableRead_values (tag : Word16) (t : ReadTarget) (a b : Byte) (n : Nat) (d : Device) :
    (d.tableRead tag t a b n).values = d.values := values_ite (startRead_values _ d) rfl

theorem nextItem_values (d : Device) : d.nextItem.values = d.values := by
  unfold nextItem
  split
  · rfl
  · exact values_ite (readItem_values _ d) rfl

/-! ## Commands -/

theorem writeStaging_values (tag : Word16) (code : Byte) (f : Bank → Bank) (d : Device) :
    (d.writeStaging tag code f).values = d.values := values_ite rfl (values_ite rfl rfl)

theorem onBound_acts (tag : Word16) (code : Byte) (slot : BitVec 4) {f : Slot → Device → Device} (h : ∀ i e, Act e (f i e))
    (d : Device) : d.Acts (d.onBound tag code slot f) := by
  unfold onBound
  split
  · exact Acts.aside rfl
  · exact .ite (Acts.aside rfl) ((h _ d).acts.reply _ _ _ _)

end Device

open Device

theorem runSetSlotEnable_acts (t : Word16) (i : BitVec 4) (on : Bool) (d : Device) : d.Acts (runSetSlotEnable t i on d) := by
  unfold runSetSlotEnable
  split
  · exact Acts.aside rfl
  · cases on
    · exact (Act.disable d _).acts.reply _ _ _ _
    · exact (Act.enable d _).acts.reply _ _ _ _

theorem runAck_values (t : Word16) (k : BitVec 4) (j : BitVec 5) (d : Device) : (runAck t k j d).values = d.values := by
  unfold runAck
  split
  · split <;> rfl
  · rfl

theorem runShareEnable_values (t : Word16) (d : Device) : (runShareEnable t d).values = d.values := by
  unfold runShareEnable
  split
  · rfl
  · rfl
  · exact values_ite rfl rfl

theorem runShareDisable_values (t : Word16) (d : Device) : (runShareDisable t d).values = d.values := by
  unfold runShareDisable
  split
  · exact (reply_values _ _ _ _ _).trans (disableShare_values d)
  · rfl

theorem runFlush_values (t : Word16) (d : Device) : (runFlush t d).values = d.values := by
  unfold runFlush
  split
  · exact flushTrigger_values d
  · rfl

/-- Every execution is a chain of these operations (R155). -/
theorem runCommand_acts (i : Instr) (d : Device) : d.Acts (runCommand i d) := by
  cases i with
  | restart t => exact (Act.restart d).acts.reply _ _ _ _
  | setTime t v => exact (Act.clock d v (v - d.clock)).acts.reply _ _ _ _
  | writeProfile t i p => exact (Act.profile d (index4 i) p).acts.reply _ _ _ _
  | writeCurve t i k => exact (Act.curve d (index4 i) k).acts.reply _ _ _ _
  | writeSettings t n g => exact (Act.settings d n g).acts.reply _ _ _ _
  | setPacing t p f => exact (Act.pacing d p f).acts.reply _ _ _ _
  | setSlotEnable t i on => exact runSetSlotEnable_acts t i on d
  | unbind t i => exact onBound_acts t 0x2A i (fun i e => .free e i) d
  | forceLeave t i => exact onBound_acts t 0x2B i (fun i e => .drop e i .forced) d
  | captureOffset t i x y => exact onBound_acts t 0x2C i (fun i e => .arm e i x y) d
  | cancelCapture t i => exact onBound_acts t 0x2D i (fun i e => .cancel e i) d
  | writeSlotParameters t i p a =>
    show d.Acts (runWriteSlotParameters t i p a d)
    unfold runWriteSlotParameters
    split
    · exact (Act.parameters d _ p _ _ _).acts.reply _ _ _ _
    · exact Acts.aside rfl
  | setOffset t i x y =>
    show d.Acts (runSetOffset t i x y d)
    unfold runSetOffset
    split
    · exact Acts.aside rfl
    · exact (Act.offset d _ _ _).acts.reply _ _ _ _
  | writeAdmission t i e m k a p =>
    show d.Acts (runWriteAdmission t i e m k a p d)
    unfold runWriteAdmission
    split <;> exact Acts.aside rfl
  | retireNow t =>
    have h : d.Acts (d.retiringSlots.foldl retireStroke d) := .fold (fun e i => (Act.retire e i).acts) _ d
    exact .ite (Acts.aside rfl) (.ite (Acts.aside rfl) (h.reply _ _ _ _))
  | readCounters t g c => exact .ite (Acts.aside rfl) (.aside (startRead_values _ d))
  | readAdmission t a b => exact Acts.aside (tableRead_values _ _ _ _ _ d)
  | readProfile t a b => exact Acts.aside (tableRead_values _ _ _ _ _ d)
  | readCurve t a b => exact Acts.aside (tableRead_values _ _ _ _ _ d)
  | readSlot t a b p => exact .ite (Acts.aside rfl) (.aside (tableRead_values _ _ _ _ _ d))
  | readStroke t a b p => exact .ite (Acts.aside rfl) (.aside (tableRead_values _ _ _ _ _ d))
  | readZone t s a b => exact .ite (Acts.aside rfl) (.ite (Acts.aside rfl) (.aside (startRead_values _ d)))
  | shareDisable t => exact Acts.aside (runShareDisable_values t d)
  | shareEnable t => exact Acts.aside (runShareEnable_values t d)
  | flush t => exact Acts.aside (runFlush_values t d)
  | ack t k j => exact Acts.aside (runAck_values t k j d)
  | apply t => exact .ite (Acts.aside rfl) (.ite (Acts.aside rfl) (Acts.aside rfl))
  | writeIdentity t c b => exact .ite (Acts.aside rfl) (Acts.aside rfl)
  | setLineThreshold t l => exact .ite (Acts.aside rfl) (Acts.aside rfl)
  | writeOpenArea t r => exact Acts.aside (writeStaging_values _ _ _ d)
  | writeZoneRect t z a b c e =>
    show d.Acts (runWriteZoneRect t z a b c e d)
    unfold runWriteZoneRect
    split
    · exact Acts.aside rfl
    · exact Acts.aside (writeStaging_values _ _ _ d)
  | writeZoneAttributes t z e r =>
    show d.Acts (runWriteZoneAttributes t z e r d)
    unfold runWriteZoneAttributes
    split
    · exact Acts.aside rfl
    · exact Acts.aside (writeStaging_values _ _ _ d)
  | setLevel t k l =>
    show d.Acts (runSetLevel t k l d)
    unfold runSetLevel
    split <;> exact Acts.aside rfl
  | _ => exact Acts.aside rfl

namespace Device

/-! ## The command path -/

theorem takeCommands_acts (n : Nat) (d : Device) : d.Acts (takeCommands n d) := by
  induction n generalizing d with
  | zero => exact .refl
  | succ n ih =>
    unfold takeCommands
    split
    · exact .refl
    · next c rest _ =>
      have htaken : d.Acts { d with responder := { d.responder with queue := rest } } := .aside rfl
      exact .ite ((htaken.trans (runCommand_acts (decodeCommand c) _)).trans (ih _)) .refl

theorem takingTest_acts (d : Device) : d.Acts d.takingTest := takeCommands_acts _ d

theorem commandArrives_acts (c : Command) (d : Device) : d.Acts (d.commandArrives c) :=
  .ite (Acts.behind (takingTest_acts _)) (Acts.aside rfl)

theorem commandStep_acts (i j : Instr) (d : Device) : d.Acts (d.commandStep i (runCommand j)) := by
  unfold commandStep
  refine .ite (runCommand_acts j d) ?_
  split
  · exact commandArrives_acts _ d
  · exact .refl

/-! ## Cells and timers -/

theorem checkSequence_acts (l : Lane) (n : BitVec 4) (d : Device) : d.Acts (d.checkSequence l n) := by
  have hmarked : ∀ (e : Device) (v : LaneState), e.values = d.values → d.Acts ((e.markLaneGap l).setLane l v) := fun e _ he =>
    ((Acts.aside he).tail (.laneGap e l)).tail (.aside rfl)
  exact .ite (Acts.aside rfl) (hmarked _ _ rfl)

theorem penSample_acts (l : Lane) (s : Sample) (d : Device) : d.Acts (d.penSample l s) := by
  unfold penSample
  split
  · next i _ => exact (Act.seen d i l s.stamp).acts.tail (.sample _ i s)
  · next hnew =>
    have h := (Act.bind hnew l s.stamp).acts
    generalize d.bindAttempt s.fields.transducer l s.stamp = r at h ⊢
    obtain ⟨_ | i, e⟩ := r
    · exact h
    · exact h.tail (.sample e i s)

theorem penProximity_acts (l : Lane) (t : Word24) (ev : ProximityEvent) (stamp : Word32) (d : Device) :
    d.Acts (d.penProximity l t ev stamp) := by
  unfold penProximity
  split
  · exact (Act.seen d _ l stamp).acts.tail (.enter _ _)
  · exact (Act.seen d _ l stamp).acts.tail (.leave _ _ stamp)
  · next hnew => exact (Act.bind hnew l stamp).acts
  · exact .refl

theorem cellArrives_acts (cell : Cell) (d : Device) : d.Acts (d.cellArrives cell) := by
  unfold cellArrives
  split
  · exact .refl
  · split
    · exact (checkSequence_acts _ _ d).trans (penSample_acts _ _ _)
    · exact (checkSequence_acts _ _ d).trans (penProximity_acts _ _ _ _ _)
    · exact commandArrives_acts _ d
    · exact Acts.aside rfl

theorem presenceExpires_acts (i : Slot) (d : Device) : d.Acts (d.presenceExpires i) := .ite (Act.drop d i .lost).acts .refl

theorem takeDue_acts (d : Device) : d.Acts d.takeDue :=
  (Acts.fold (fun e i => (Act.liftHold e i).acts.trans (presenceExpires_acts i _)) allSlots d).tail (.aside (pacerExpires_values _))

theorem linkFalls_acts (d : Device) : d.Acts d.linkFalls :=
  Acts.behind (Acts.fold (f := fun e i => e.dropRange i .lost) (fun e i => (Act.drop e i .lost).acts) allSlots d.lineDown)

theorem replyCompletes_acts (d : Device) : d.Acts d.replyCompletes := by
  unfold replyCompletes
  split
  · exact Acts.behind (takingTest_acts _)
  · exact .refl

end Device

/-! ## Every step -/

/-- The device of an outcome. -/
theorem acts_of_onDevice {f : Device → Device} {s t : State} (he : s.onDevice f = .next t) (h : s.dev.Acts (f s.dev)) :
    s.dev.Acts t.dev := by
  cases he
  exact h

/-- An event of the links, lines and timers. -/
theorem exec_event_acts {i : Instr} {s t : State} (h : encodeCommand i = none) (he : exec i s = .next t) : s.dev.Acts t.dev := by
  cases i with
  | hardReset v => exact acts_of_onDevice (f := fun _ => hardResetDevice v) he (Act.reset s.dev v).acts
  | linkValidFalls => exact acts_of_onDevice he (linkFalls_acts s.dev)
  | linkValidRises => exact acts_of_onDevice (f := linkRises) he (Acts.aside rfl)
  | millisecondTick => exact acts_of_onDevice he ((takeDue_acts s.dev).tail (.tick _))
  | sample cell => exact acts_of_onDevice he (cellArrives_acts cell s.dev)
  | proximity cell => exact acts_of_onDevice he (cellArrives_acts cell s.dev)
  | commandCell cell => exact acts_of_onDevice he (cellArrives_acts cell s.dev)
  | invalidCell cell => exact acts_of_onDevice he (cellArrives_acts cell s.dev)
  | presenceExpiry i => exact acts_of_onDevice he (presenceExpires_acts i s.dev)
  | liftHoldExpiry i => exact acts_of_onDevice he (Act.liftHold s.dev i).acts
  | pacerExpiry => exact acts_of_onDevice he (.aside (pacerExpires_values s.dev))
  | noticePulseEnd => exact acts_of_onDevice (f := fun d => { d with notices := d.notices.pulseEnds }) he (Acts.aside rfl)
  | overlayTxBegin ready => exact acts_of_onDevice he (.aside (overlayBegins_values ready s.dev))
  | overlayTxComplete => exact acts_of_onDevice (f := overlayCompletes) he (.ite (Acts.aside rfl) .refl)
  | shareEgressBegin ready => exact acts_of_onDevice he (.aside (egressBegins_values ready s.dev))
  | replyTxComplete => exact acts_of_onDevice he (replyCompletes_acts s.dev)
  | frameTxComplete => exact acts_of_onDevice he (.aside (frameCompletes_values s.dev))
  | rangeReadNextItem =>
    exact acts_of_onDevice (f := fun d => if d.responder.reading.isSome then d.nextItem.takingTest else d) he
      (.ite (Acts.behind (takingTest_acts _) (nextItem_values s.dev)) .refl)
  | _ => cases h

/-- Every step is a chain of these operations. -/
theorem step_acts {s t : State} (h : step s = .next t) : s.dev.Acts t.dev := by
  unfold step at h
  split at h
  · cases h
    exact .refl
  · next i rest _ =>
    cases hc : encodeCommand i with
    | none => exact exec_event_acts (s := { s with pending := rest }) hc h
    | some c =>
      rw [exec_of_command hc] at h
      exact acts_of_onDevice (s := { s with pending := rest }) h (commandStep_acts i _ s.dev)

end Sys2Proof.Machine
end

section
/-! SUPPORT. What the contact unit asks for, said once (Figure 3-2): whatever it does in a slot is a chain of writes to the slot's contact
fields and of requests to the Point Filter, the Stroke Assembler, the Zone Table and the Pen Table, all for that slot. -/

namespace Sys2Proof.Machine

/-- A write to the contact fields of slot `i`, or a request for it. -/
inductive Device.Request (i : Slot) : Device → Device → Prop
  | contact (d : Device) (c : Contact) : Request i d (d.setContact i c)
  | seed (d : Device) (s : Sample) : Request i d (d.seedFilter i s)
  | smooth (d : Device) (s : Sample) : Request i d (d.smoothFilter i s)
  | start (d : Device) (q : OpenRequest) : Request i d (d.openStroke i q)
  | emit (d : Device) (p : Point) (s : Sample) : Request i d (d.emitSeg i p (d.strokeWidth i s) s.stamp)
  | close (d : Device) (reason : CloseReason) (time : Word32) : Request i d (d.closeStroke i reason time)
  | refuse (d : Device) (z : ZoneNo) : Request i d (d.blockSlot i z)
  | capture (d : Device) (s : Sample) : Request i d (d.completeCapture i s)

/-- A chain of them. -/
abbrev Device.Requests (i : Slot) : Device → Device → Prop := Relation.ReflTransGen (Device.Request i)

namespace Device

variable (i : Slot) (s : Sample) (d : Device)

theorem Requests.ite {i : Slot} {d a b : Device} {c : Prop} [Decidable c] (h : Requests i d a) (k : Requests i d b) :
    Requests i d (if c then a else b) := by
  split
  · exact h
  · exact k

theorem setContact_requests (c : Contact) : Requests i d (d.setContact i c) := .single (.contact d c)

theorem closeStroke_requests (reason : CloseReason) (time : Word32) : Requests i d (d.closeStroke i reason time) :=
  .single (.close d reason time)

theorem openFrom_requests (z : ZoneNo) : Requests i d (d.openFrom i s z) :=
  .tail (.single (.start d _)) (.contact _ _)

theorem contactBegin_requests : Requests i d (d.contactBegin i s) := by
  have hseed : Requests i d (d.seedFilter i s) := .single (.seed d s)
  have hcapture := fun c => hseed.tail (.contact _ c)
  exact .ite (hseed.tail (.refuse _ _))
    (.ite (.ite ((hcapture _).tail (.capture _ s)) (hcapture _))
      (.ite (hseed.trans (openFrom_requests i s _ _)) (hseed.tail (.contact _ _))))

theorem hoverSample_requests : Requests i d (d.hoverSample i s) := .ite .refl (contactBegin_requests i s d)

theorem settlingSample_requests : Requests i d (d.settlingSample i s) := by
  have hcounted := fun c => Relation.ReflTransGen.tail (.single (.smooth d s)) (Request.contact (i := i) (d.smoothFilter i s) c)
  exact .ite (setContact_requests i d _)
    (.ite (hcounted _) (.ite ((hcounted _).trans (openFrom_requests i s _ _)) ((hcounted _).tail (.refuse _ _))))

theorem endChange_requests : Requests i d (d.endChange i s) := by
  have hseeded := (closeStroke_requests i d .endChange s.stamp).tail (.seed _ s)
  exact .ite (hseeded.trans (openFrom_requests i s _ _)) (hseeded.tail (.refuse _ _))

theorem continueStroke_requests : Requests i d (d.continueStroke i s) :=
  .ite (.tail (.single (.smooth d s)) (.emit _ _ s)) (.single (.smooth d s))

theorem splitAllowed_requests (z : ZoneNo) : Requests i d (d.splitAllowed i s z) := by
  unfold splitAllowed
  extract_lets d1 p k d2 d3
  have h1 : Requests i d d1 := .single (.smooth d s)
  have h2 : Requests i d d2 := .ite h1 (h1.tail (.emit _ _ s))
  exact (h2.tail (.close _ _ _)).tail (.start _ _)

theorem splitRefused_requests : Requests i d (d.splitRefused i s) := .tail (.single (.smooth d s)) (.close _ _ _)

theorem inkSample_requests : Requests i d (d.inkSample i s) :=
  .ite (endChange_requests i s d)
    (.ite (continueStroke_requests i s d)
      (.ite (splitAllowed_requests i s d _) ((splitRefused_requests i s d).tail (.refuse _ _))))

theorem lift_requests : Requests i d (d.lift i s) := by
  have hlift := setContact_requests i d { d.contact i with liftTime := s.stamp }
  exact .ite ((hlift.tail (.close _ _ _)).tail (.contact _ _)) (hlift.tail (.contact _ _))

theorem inkingSample_requests : Requests i d (d.inkingSample i s) := .ite (lift_requests i s d) (inkSample_requests i s d)

theorem holdingSample_requests : Requests i d (d.holdingSample i s) :=
  .ite .refl ((setContact_requests i d _).trans (inkSample_requests i s _))

theorem blockedSample_requests : Requests i d (d.blockedSample i s) :=
  .ite (setContact_requests i d _) (.ite (.trans (.single (.seed d s)) (openFrom_requests i s _ _)) .refl)

theorem captureSample_requests : Requests i d (d.captureSample i s) := by
  unfold captureSample
  refine .ite (setContact_requests i d _) ?_
  split
  · exact .refl
  · exact .ite ((setContact_requests i d _).tail (.capture _ s)) (setContact_requests i d _)

/-- A sample at its slot (R47 to R56). -/
theorem takeSample_requests : Requests i d (d.takeSample i s) := by
  have hp : Requests i d (d.restartPresence i) := setContact_requests i d _
  unfold takeSample
  split
  case h_1 => exact .refl
  case h_2 => exact ((setContact_requests i d _).tail (.contact _ _)).trans (hoverSample_requests i s _)
  case h_3 => exact hp.trans (hoverSample_requests i s _)
  case h_4 => exact hp.trans (settlingSample_requests i s _)
  case h_5 => exact hp.trans (inkingSample_requests i s _)
  case h_6 => exact hp.trans (holdingSample_requests i s _)
  case h_7 => exact hp.trans (blockedSample_requests i s _)
  case h_8 => exact hp.trans (captureSample_requests i s _)

theorem takeEnter_requests : Requests i d (d.takeEnter i) := by
  unfold takeEnter
  split
  · exact .refl
  · exact (setContact_requests i d _).tail (.contact _ _)
  · exact setContact_requests i d _

theorem takeLeave_requests (stamp : Word32) : Requests i d (d.takeLeave i stamp) := by
  unfold takeLeave
  split
  · exact .refl
  · exact .refl
  · exact (closeStroke_requests i d _ _).tail (.contact _ _)
  · exact (closeStroke_requests i d _ _).tail (.contact _ _)
  · exact setContact_requests i d _

theorem dropRange_requests (reason : CloseReason) : Requests i d (d.dropRange i reason) := by
  unfold dropRange
  split
  · exact .refl
  · exact .refl
  · exact (closeStroke_requests i d _ _).tail (.contact _ _)
  · exact (closeStroke_requests i d _ _).tail (.contact _ _)
  · exact setContact_requests i d _

theorem retireStroke_requests : Requests i d (d.retireStroke i) := by
  have hclosed := closeStroke_requests i d .retired d.clock
  unfold retireStroke
  extract_lets e
  split
  · exact hclosed.tail (.contact _ _)
  · exact hclosed.tail (.contact _ _)
  · exact hclosed

theorem liftHoldExpires_requests : Requests i d (d.liftHoldExpires i) :=
  .ite ((closeStroke_requests i d _ _).tail (.contact _ _)) .refl

/-! ## What every request leaves alone -/

/-- Between `d` and `e` every other slot has kept its records, and slot `i` its pen, its enable and its parameters. -/
def PenKept (i : Slot) (d e : Device) : Prop :=
  d.OthersKept i e ∧ (e.slot i).binding = (d.slot i).binding ∧ (e.slot i).transducer = (d.slot i).transducer ∧
    (e.slot i).enabled = (d.slot i).enabled

variable {i d}

theorem PenKept.refl : PenKept i d d := ⟨fun _ _ => ⟨rfl, rfl, rfl, rfl, rfl⟩, rfl, rfl, rfl⟩

theorem PenKept.trans {e f : Device} (h : PenKept i d e) (k : PenKept i e f) : PenKept i d f := by
  obtain ⟨ho, hb, ht, he⟩ := h
  obtain ⟨ko, kb, kt, ke⟩ := k
  exact ⟨fun j hj => AgreeAt.trans (ho j hj) (ko j hj), kb.trans hb, kt.trans ht, ke.trans he⟩

theorem Within.penKept {e : Device} (h : d.Within i e) : PenKept i d e := by
  obtain ⟨ho, -, -, -, -, hpens, -⟩ := h
  have hslot : e.slot i = d.slot i := by rw [slot, hpens]; rfl
  exact ⟨ho, by rw [hslot], by rw [hslot], by rw [hslot]⟩

theorem completeCapture_slot_same (i : Slot) (s : Sample) (d : Device) :
    (d.completeCapture i s).slot i =
      { d.slot i with
        offsetX := clampOffset (((d.slot i).targetX.toNat : Int) - s.fields.x.toNat)
        offsetY := clampOffset (((d.slot i).targetY.toNat : Int) - s.fields.y.toNat)
        captureArmed := false } := setSlot_slot_same d i _

theorem completeCapture_contact_same (i : Slot) (s : Sample) (d : Device) :
    (d.completeCapture i s).contact i = { d.contact i with wait := .ended } := setContact_contact_same (d.setSlot i _) i _

theorem completeCapture_others (i : Slot) (s : Sample) (d : Device) : d.OthersKept i (d.completeCapture i s) := fun _ hj =>
  ⟨setSlot_slot_ne d _ hj, setContact_contact_ne (d.setSlot i _) _ hj, rfl, rfl, rfl⟩

theorem Request.penKept {e : Device} (h : Request i d e) : PenKept i d e := by
  cases h with
  | contact c => exact (setContact_within i c d).penKept
  | seed s => exact (setFilter_within i _ d).penKept
  | smooth s => exact (setFilter_within i _ d).penKept
  | start q => exact (openStroke_within i q d).penKept
  | emit p s => exact (emitSeg_within i p _ _ d).penKept
  | close reason time => exact (closeStroke_within i reason time d).penKept
  | refuse z => exact (blockSlot_within i z d).penKept
  | capture s =>
    refine ⟨completeCapture_others i s d, ?_, ?_, ?_⟩ <;> rw [completeCapture_slot_same]

theorem Requests.penKept {e : Device} (h : Requests i d e) : PenKept i d e := by
  induction h with
  | refl => exact .refl
  | tail _ hr ih => exact ih.trans hr.penKept

end Device

end Sys2Proof.Machine
end

section
/-! SUPPORT. The records of one slot: what equal values say of them, how a bind attempt ends, and what it is for a slot in range to agree with
itself (`PlacedAt`), with the stroke closed (`IdleAt`) or drawing (`DrawsAt`). -/

namespace Sys2Proof.Machine

open Device

namespace Device

/-! ## The values of one slot -/

section OfValues

variable {d e : Device} (h : e.values = d.values)

include h

theorem slot_of_values (i : Slot) : e.slot i = d.slot i := by
  simp only [values, Prod.mk.injEq] at h
  rw [slot, h.1]
  rfl

theorem contact_of_values (i : Slot) : e.contact i = d.contact i := by
  simp only [values, Prod.mk.injEq] at h
  obtain ⟨-, -, -, -, hc, -⟩ := h
  rw [contact, hc]
  rfl

theorem context_of_values (i : Slot) : e.context i = d.context i := by
  simp only [values, Prod.mk.injEq] at h
  obtain ⟨-, -, -, -, -, hk, -⟩ := h
  rw [context, hk]
  rfl

theorem filter_of_values (i : Slot) : e.filter i = d.filter i := by
  simp only [values, Prod.mk.injEq] at h
  obtain ⟨-, -, -, -, -, -, hf, -⟩ := h
  rw [filter, hf]
  rfl

end OfValues

/-! ## The end of a bind attempt -/

theorem oldestAway_away {d : Device} {i : Slot} (h : d.oldestAway = some i) : (d.contact i).state = .away := by
  have hfold : ∀ (l : List Slot) (best : Option Slot), (∀ j ∈ best, (d.contact j).state = .away) →
      ∀ j ∈ l.foldl d.olderOf best, (d.contact j).state = .away := by
    intro l
    induction l with
    | nil => exact fun _ hb => hb
    | cons k l ih =>
      intro best hb
      refine ih _ fun j hj => ?_
      unfold olderOf at hj
      split at hj
      · next hk =>
        split at hj
        · cases hj
          exact hk
        · split at hj <;> cases hj
          · exact hk
          · exact hb _ rfl
      · exact hb j hj
  exact hfold allSlots none nofun i h

/-- A bind attempt takes the pen in at a slot that is free or AWAY, or it moves no value (R23, R24). -/
theorem bindAttempt_cases (t : Word24) (l : Lane) (stamp : Word32) (d : Device) :
    (d.bindAttempt t l stamp).2.values = d.values ∨
      ∃ i a, (d.bindAttempt t l stamp).2 = d.takenIn i t l a stamp ∧ (d.IsFree i ∨ (d.contact i).state = .away) := by
  cases ha : d.pens.termsFor t with
  | none =>
    left
    simp only [bindAttempt, ha]
    rfl
  | some a =>
    cases hf : d.freeSlotNo with
    | some i =>
      have hi := (d.freeSlotNo_iff i).mp hf
      exact .inr ⟨i, a, by rw [bindAttempt_eq ha (chooseSlot_eq (.inl hi))]; rfl, .inl hi.1⟩
    | none =>
      cases ho : d.oldestAway with
      | none =>
        left
        simp only [bindAttempt, ha, chooseSlot, hf, ho]
        rfl
      | some i =>
        have hnone : ∀ j, ¬d.IsFree j := fun j hj => by
          have := List.find?_eq_none.mp hf j (mem_allSlots j)
          simp only [Bool.and_eq_true, decide_eq_true_eq] at this
          exact this hj
        have hchoice : d.chooseSlot = some (i, d.madeFree i) := by
          simp only [chooseSlot, hf, ho, madeFree, if_pos hnone]
        exact .inr ⟨i, a, by rw [bindAttempt_eq ha hchoice]; rfl, .inr (oldestAway_away ho)⟩

end Device

/-! ## The agreement of one slot's records -/

namespace Device

/-- Slot `i` is in range and agrees with itself: its stroke is open exactly in INKING and HOLDING, its lift-hold timer runs exactly in
HOLDING, and its presence timer runs. -/
structure PlacedAt (i : Slot) (d : Device) : Prop where
  free : (d.contact i).state ≠ .free
  away : (d.contact i).state ≠ .away
  opened : (d.context i).isOpen = true ↔ (d.contact i).state = .inking ∨ (d.contact i).state = .holding
  hold : (d.contact i).liftHold.isSome = true ↔ (d.contact i).state = .holding
  present : (d.contact i).presence.isSome = true

/-- Slot `i` has no open stroke and no lift-hold timer running, and its presence timer runs. -/
structure IdleAt (i : Slot) (d : Device) : Prop where
  closed : (d.context i).isOpen = false
  hold : (d.contact i).liftHold = none
  present : (d.contact i).presence.isSome = true

/-- Slot `i` is drawing: INKING with its stroke open. -/
structure DrawsAt (i : Slot) (d : Device) : Prop where
  inking : (d.contact i).state = .inking
  opened : (d.context i).isOpen = true
  hold : (d.contact i).liftHold = none
  present : (d.contact i).presence.isSome = true

variable {i : Slot} {d : Device}

/-- A slot in range is sound where it is bound and enabled. -/
theorem PlacedAt.slotSound (h : d.PlacedAt i) (hb : (d.slot i).binding = .bound) (he : (d.slot i).enabled = true) : d.SlotSound i := by
  obtain ⟨hfree, haway, hopen, hhold, hpresent⟩ := h
  refine ⟨by simp [hb, hfree], by simp [he], hopen, hhold, ?_⟩
  simp only [Option.isNone_iff_eq_none, hfree, haway, or_self, iff_false]
  exact Option.isSome_iff_ne_none.mp hpresent

theorem SlotSound.bound (h : d.SlotSound i) (hs : (d.contact i).state ≠ .free) :
    (d.slot i).binding = .bound ∧ (d.slot i).enabled = true := by
  obtain ⟨hfree, henabled, -⟩ := h
  have hb : (d.slot i).binding ≠ .free := fun k => hs (hfree.mp k)
  refine ⟨?_, Bool.not_eq_false _ ▸ fun k => hb (henabled k)⟩
  cases k : (d.slot i).binding with
  | free => exact absurd k hb
  | bound => rfl

theorem SlotSound.placed (h : d.SlotSound i) (hs : (d.contact i).state ≠ .free ∧ (d.contact i).state ≠ .away) : d.PlacedAt i := by
  obtain ⟨-, -, hopen, hhold, hpresent⟩ := h
  refine ⟨hs.1, hs.2, hopen, hhold, Option.isSome_iff_ne_none.mpr fun k => ?_⟩
  exact (hpresent.mp (by rw [k]; rfl)).elim hs.1 hs.2

/-- A slot whose stroke is closed and whose contact fields are those of a state at rest is in agreement. -/
theorem IdleAt.placed (h : d.IdleAt i) (hfree : (d.contact i).state ≠ .free) (haway : (d.contact i).state ≠ .away)
    (hink : (d.contact i).state ≠ .inking) (hhold : (d.contact i).state ≠ .holding) : d.PlacedAt i := by
  refine ⟨hfree, haway, ?_, ?_, h.present⟩
  · simp [h.closed, hink, hhold]
  · simp [h.hold, hhold]

theorem DrawsAt.placed (h : d.DrawsAt i) : d.PlacedAt i := by
  refine ⟨?_, ?_, ?_, ?_, h.present⟩ <;> simp [h.inking, h.opened, h.hold]

theorem PlacedAt.idle (h : d.PlacedAt i) (hink : (d.contact i).state ≠ .inking) (hhold : (d.contact i).state ≠ .holding) : d.IdleAt i := by
  obtain ⟨-, -, hopen, hlift, hpresent⟩ := h
  refine ⟨?_, ?_, hpresent⟩
  · simpa [hink, hhold] using hopen
  · simpa [hhold] using hlift

theorem PlacedAt.draws (h : d.PlacedAt i) (hink : (d.contact i).state = .inking) : d.DrawsAt i := by
  obtain ⟨-, -, hopen, hlift, hpresent⟩ := h
  exact ⟨hink, hopen.mpr (.inl hink), by simpa [hink] using hlift, hpresent⟩

theorem IdleAt.of_records {e : Device} (h : d.IdleAt i) (hc : (e.contact i).liftHold = (d.contact i).liftHold)
    (hp : (e.contact i).presence = (d.contact i).presence) (hk : (e.context i).isOpen = (d.context i).isOpen) : e.IdleAt i :=
  ⟨hk.trans h.closed, hc.trans h.hold, hp ▸ h.present⟩

/-! ## The operations of the contact unit -/

theorem blockSlot_contact_same (z : ZoneNo) : (d.blockSlot i z).contact i = { d.contact i with state := .blocked } := by
  cases hg : (d.zones.activeBank.rulesOf z).guarded with
  | true =>
    rw [blockSlot_of_guarded hg]
    exact setContact_contact_same d i _
  | false =>
    rw [blockSlot_of_unguarded hg]
    exact setContact_contact_same d i _

theorem blockSlot_context (z : ZoneNo) (j : Slot) : (d.blockSlot i z).context j = d.context j := by
  cases hg : (d.zones.activeBank.rulesOf z).guarded with
  | true =>
    rw [blockSlot_of_guarded hg]
    rfl
  | false =>
    rw [blockSlot_of_unguarded hg]
    rfl

theorem openStroke_contact (q : OpenRequest) (j : Slot) : (d.openStroke i q).contact j = d.contact j := by
  rw [contact, (openStroke_rest i q d).1]
  rfl

theorem emitSeg_contact (p : Point) (w : Byte) (time : Word32) (j : Slot) : (d.emitSeg i p w time).contact j = d.contact j := by
  have h : Routed _ (d.emitSeg i p w time) := routeSeg_routed i _ _
  rw [h]
  rfl

theorem emitSeg_isOpen (p : Point) (w : Byte) (time : Word32) :
    ((d.emitSeg i p w time).context i).isOpen = (d.context i).isOpen := by
  rw [(emitSeg_offered i p w time d).1]

theorem closeStroke_isOpen (reason : CloseReason) (time : Word32) : ((d.closeStroke i reason time).context i).isOpen = false := by
  cases h : (d.context i).isOpen with
  | true =>
    rw [closeStroke_context_same h]
    rfl
  | false => rw [closeStroke_of_closed h, h]

theorem IdleAt.openFrom (h : d.IdleAt i) (s : Sample) (z : ZoneNo) : (d.openFrom i s z).DrawsAt i := by
  have hc : (d.openFrom i s z).contact i = { d.contact i with state := .inking } := by
    rw [Device.openFrom, setState, setContact_contact_same, openStroke_contact]
  refine ⟨by rw [hc], ?_, by rw [hc]; exact h.hold, by rw [hc]; exact h.present⟩
  rw [Device.openFrom, setState, setContact_context, openStroke_context_same]
  rfl

theorem IdleAt.blockSlot (h : d.IdleAt i) (z : ZoneNo) : (d.blockSlot i z).PlacedAt i := by
  have hc := blockSlot_contact_same (d := d) (i := i) z
  refine IdleAt.placed (h.of_records ?_ ?_ (by rw [blockSlot_context])) ?_ ?_ ?_ ?_ <;> rw [hc] <;> exact nofun

/-- A stroke opened or refused, by a slot that has none. -/
theorem IdleAt.judged (h : d.IdleAt i) (s : Sample) (z : ZoneNo) {c : Prop} [Decidable c] :
    (if c then d.openFrom i s z else d.blockSlot i z).PlacedAt i := by
  split
  · exact (h.openFrom s z).placed
  · exact h.blockSlot z

theorem IdleAt.seedFilter (h : d.IdleAt i) (s : Sample) : (d.seedFilter i s).IdleAt i := ⟨h.closed, h.hold, h.present⟩

/-- Contact fields with the same timers, written to a slot without a stroke. -/
theorem IdleAt.withContact (h : d.IdleAt i) {c : Contact} (hl : c.liftHold = (d.contact i).liftHold := by rfl)
    (hp : c.presence = (d.contact i).presence := by rfl) : (d.setContact i c).IdleAt i := by
  refine ⟨h.closed, ?_, ?_⟩ <;> rw [setContact_contact_same]
  · rw [hl, h.hold]
  · rw [hp]
    exact h.present

/-- Contact fields of a state that has no stroke, written to a slot whose stroke is closed. -/
theorem placed_resting {c : Contact} (hk : (d.context i).isOpen = false) (hl : c.liftHold = none) (hp : c.presence.isSome = true)
    (hs : c.state = .hover ∨ c.state = .settling ∨ c.state = .capture ∨ c.state = .blocked) : (d.setContact i c).PlacedAt i := by
  refine IdleAt.placed ⟨hk, ?_, ?_⟩ ?_ ?_ ?_ ?_ <;> rw [setContact_contact_same]
  · exact hl
  · exact hp
  all_goals rcases hs with hs | hs | hs | hs <;> rw [hs] <;> exact nofun

theorem IdleAt.resting (h : d.IdleAt i) {c : Contact}
    (hs : c.state = .hover ∨ c.state = .settling ∨ c.state = .capture ∨ c.state = .blocked := by simp)
    (hl : c.liftHold = (d.contact i).liftHold := by rfl) (hp : c.presence = (d.contact i).presence := by rfl) :
    (d.setContact i c).PlacedAt i := placed_resting h.closed (hl.trans h.hold) (hp ▸ h.present) hs

end Device

end Sys2Proof.Machine
end

section
/-! SUPPORT. The operations of the contact unit and of the Pen Table on a slot that agrees with itself: each leaves it in agreement. -/

namespace Sys2Proof.Machine

open Device

namespace Device

variable {i : Slot} {d : Device}

theorem PlacedAt.ite {a b : Device} {c : Prop} [Decidable c] (h : a.PlacedAt i) (k : b.PlacedAt i) :
    (if c then a else b).PlacedAt i := by
  split
  · exact h
  · exact k

theorem PlacedAt.completeCapture (h : d.PlacedAt i) (s : Sample) : (d.completeCapture i s).PlacedAt i := by
  have hc := completeCapture_contact_same i s d
  obtain ⟨hfree, haway, hopen, hhold, hpresent⟩ := h
  constructor <;> rw [hc] <;> assumption

/-- A contact begin leaves its slot BLOCKED, in CAPTURE, SETTLING, or drawing (R49). -/
theorem IdleAt.contactBegin (h : d.IdleAt i) (s : Sample) : (d.contactBegin i s).PlacedAt i := by
  have hseeded := h.seedFilter s
  unfold Device.contactBegin
  extract_lets e zone count c m
  have hcapture : m.PlacedAt i := hseeded.resting
  refine .ite (hseeded.blockSlot zone) (.ite ?_ (.ite ?_ ?_))
  · exact .ite (hcapture.completeCapture s) hcapture
  · exact (hseeded.openFrom s zone).placed
  · exact hseeded.resting

theorem IdleAt.settlingSample (h : d.IdleAt i) (hs : (d.contact i).state = .settling) (s : Sample) :
    (d.settlingSample i s).PlacedAt i := by
  have hsmooth : (d.smoothFilter i s).IdleAt i := ⟨h.closed, h.hold, h.present⟩
  unfold Device.settlingSample
  extract_lets c0 e left c1 m zone
  have hcounted : m.IdleAt i := hsmooth.withContact
  have hwaits : m.PlacedAt i := hsmooth.resting (.inr (.inl hs))
  exact .ite h.resting (.ite hwaits (hcounted.judged s zone))

theorem endChange_placed (hh : (d.contact i).liftHold = none) (hp : (d.contact i).presence.isSome = true) (s : Sample) :
    (d.endChange i s).PlacedAt i := by
  have hcontact : (d.closeStroke i .endChange s.stamp).contact i = d.contact i := closeStroke_contact i i _ _ d
  have hclosed : (d.closeStroke i .endChange s.stamp).IdleAt i :=
    ⟨closeStroke_isOpen _ _, by rw [hcontact]; exact hh, by rw [hcontact]; exact hp⟩
  exact (hclosed.seedFilter s).judged s _

theorem DrawsAt.of_records {e : Device} (h : d.DrawsAt i) (hc : e.contact i = d.contact i)
    (hk : (e.context i).isOpen = (d.context i).isOpen) : e.DrawsAt i :=
  ⟨by rw [hc]; exact h.inking, hk.trans h.opened, by rw [hc]; exact h.hold, by rw [hc]; exact h.present⟩

theorem DrawsAt.emitSeg (h : d.DrawsAt i) (p : Point) (w : Byte) (time : Word32) : (d.emitSeg i p w time).DrawsAt i :=
  h.of_records (emitSeg_contact p w time i) (emitSeg_isOpen p w time)

theorem DrawsAt.smoothFilter (h : d.DrawsAt i) (s : Sample) : (d.smoothFilter i s).DrawsAt i := h.of_records rfl rfl

theorem DrawsAt.ite {a b : Device} {c : Prop} [Decidable c] (h : a.DrawsAt i) (k : b.DrawsAt i) : (if c then a else b).DrawsAt i := by
  split
  · exact h
  · exact k

/-- A split that the zone allows closes the stroke and opens its continuation. -/
theorem DrawsAt.splitAllowed (h : d.DrawsAt i) (s : Sample) (z : ZoneNo) : (d.splitAllowed i s z).DrawsAt i := by
  unfold Device.splitAllowed
  extract_lets d1 p k d2 d3
  have h1 : d1.DrawsAt i := h.smoothFilter s
  have h2 : d2.DrawsAt i := .ite h1 (h1.emitSeg p _ _)
  have hcontact : ∀ q, (d3.openStroke i q).contact i = d2.contact i := fun q =>
    (openStroke_contact q i).trans (closeStroke_contact i i _ _ d2)
  refine h2.of_records (hcontact _) ?_
  rw [openStroke_context_same, h2.opened]
  rfl

/-- A sample of a drawing slot, not a lift (R51). -/
theorem DrawsAt.inkSample (h : d.DrawsAt i) (s : Sample) : (d.inkSample i s).PlacedAt i := by
  have hsmooth := h.smoothFilter s
  have hcontact : (d.splitRefused i s).contact i = d.contact i := closeStroke_contact i i _ _ (d.smoothFilter i s)
  have hrefused : (d.splitRefused i s).IdleAt i :=
    ⟨closeStroke_isOpen _ _, by rw [hcontact]; exact h.hold, by rw [hcontact]; exact h.present⟩
  exact .ite (endChange_placed h.hold h.present s)
    (.ite (DrawsAt.ite (hsmooth.emitSeg _ _ _) hsmooth).placed
      (.ite (h.splitAllowed s _).placed (hrefused.blockSlot _)))

/-- A lift leaves the slot in HOVER or in HOLDING (R52). -/
theorem DrawsAt.lift (h : d.DrawsAt i) (s : Sample) : (d.lift i s).PlacedAt i := by
  unfold Device.lift
  extract_lets c m hold
  have hm : m.contact i = { d.contact i with liftTime := s.stamp } := setContact_contact_same d i _
  have hcontact : (m.closeStroke i .lift s.stamp).contact i = { d.contact i with liftTime := s.stamp } :=
    (closeStroke_contact i i _ _ m).trans hm
  have hclosed : (m.closeStroke i .lift s.stamp).IdleAt i :=
    ⟨closeStroke_isOpen _ _, by rw [hcontact]; exact h.hold, by rw [hcontact]; exact h.present⟩
  refine .ite hclosed.resting ?_
  have hopen : (m.context i).isOpen = true := h.opened
  constructor <;> rw [setContact_contact_same]
  · exact nofun
  · exact nofun
  · simpa using hopen
  · simp
  · show (m.contact i).presence.isSome = true
    rw [hm]
    exact h.present

/-- A sample taken in HOLDING (R53). -/
theorem PlacedAt.holdingSample (h : d.PlacedAt i) (hs : (d.contact i).state = .holding) (s : Sample) :
    (d.holdingSample i s).PlacedAt i := by
  have hdraws : (d.setContact i { d.contact i with state := .inking, liftHold := none }).DrawsAt i := by
    constructor
    · rw [setContact_contact_same]
    · exact h.opened.mpr (.inr hs)
    · rw [setContact_contact_same]
    · rw [setContact_contact_same]
      exact h.present
  exact .ite h (hdraws.inkSample s)

theorem PlacedAt.blockedSample (h : d.PlacedAt i) (hs : (d.contact i).state = .blocked) (s : Sample) :
    (d.blockedSample i s).PlacedAt i := by
  have hidle : d.IdleAt i := h.idle (by rw [hs]; exact nofun) (by rw [hs]; exact nofun)
  unfold Device.blockedSample
  extract_lets zone
  refine .ite ?_ (.ite ((hidle.seedFilter s).openFrom s zone).placed h)
  exact hidle.resting

theorem PlacedAt.captureSample (h : d.PlacedAt i) (hs : (d.contact i).state = .capture) (s : Sample) :
    (d.captureSample i s).PlacedAt i := by
  have hidle : d.IdleAt i := h.idle (by rw [hs]; exact nofun) (by rw [hs]; exact nofun)
  unfold Device.captureSample
  refine .ite hidle.resting ?_
  split
  · exact h
  · extract_lets left c m
    have hcounted : m.PlacedAt i := hidle.resting (.inr (.inr (.inl hs)))
    exact .ite (hcounted.completeCapture s) hcounted

/-- A presence timer restarted leaves a slot in range in agreement. -/
theorem PlacedAt.restartPresence (h : d.PlacedAt i) : (d.restartPresence i).PlacedAt i := by
  obtain ⟨hfree, haway, hopen, hhold, -⟩ := h
  unfold Device.restartPresence
  constructor <;> rw [setContact_contact_same]
  · exact hfree
  · exact haway
  · exact hopen
  · exact hhold
  · rfl

/-- An AWAY pen comes to HOVER with its presence timer started (R45, R47). -/
theorem SlotSound.arrives (h : d.SlotSound i) (hs : (d.contact i).state = .away) :
    ((d.setState i .hover).restartPresence i).PlacedAt i := by
  obtain ⟨-, -, hopen, hhold, -⟩ := h
  rw [hs] at hopen hhold
  have hclosed : (d.context i).isOpen = false := by simpa using hopen
  refine placed_resting (d := d.setState i .hover) hclosed ?_ rfl (.inl ?_) <;> rw [setState, setContact_contact_same]
  simpa using hhold

theorem IdleAt.hoverSample (h : d.IdleAt i) (hs : (d.contact i).state = .hover) (s : Sample) : (d.hoverSample i s).PlacedAt i := by
  have hd : d.PlacedAt i := h.placed (by rw [hs]; exact nofun) (by rw [hs]; exact nofun) (by rw [hs]; exact nofun) (by rw [hs]; exact nofun)
  exact .ite hd (h.contactBegin s)

theorem restartPresence_state : ((d.restartPresence i).contact i).state = (d.contact i).state := by
  rw [restartPresence, setContact_contact_same]

/-- A sample at a slot in range (R48 to R56). -/
theorem PlacedAt.takeSample (h : d.PlacedAt i) (s : Sample) : (d.takeSample i s).PlacedAt i := by
  have hp := h.restartPresence
  have hstate : ((d.restartPresence i).contact i).state = (d.contact i).state := restartPresence_state
  have hidle : (d.contact i).state ≠ .inking → (d.contact i).state ≠ .holding → (d.restartPresence i).IdleAt i := fun h1 h2 =>
    hp.idle (hstate ▸ h1) (hstate ▸ h2)
  unfold Device.takeSample
  split
  · next hs => exact absurd hs h.free
  · next hs => exact absurd hs h.away
  · next hs => exact (hidle (hs ▸ nofun) (hs ▸ nofun)).hoverSample (hstate.trans hs) s
  · next hs => exact (hidle (hs ▸ nofun) (hs ▸ nofun)).settlingSample (hstate.trans hs) s
  · next hs =>
    have hdraws := hp.draws (hstate.trans hs)
    exact .ite (hdraws.lift s) (hdraws.inkSample s)
  · next hs => exact hp.holdingSample (hstate.trans hs) s
  · next hs => exact hp.blockedSample (hstate.trans hs) s
  · next hs => exact hp.captureSample (hstate.trans hs) s

/-! ## Sound slots -/

/-- What stays within slot `i` and keeps its pen, and leaves it in range and in agreement, leaves it sound. -/
theorem SlotSound.of_placed {e : Device} (h : d.SlotSound i) (hs : (d.contact i).state ≠ .free) (hk : PenKept i d e) (hp : e.PlacedAt i) :
    e.SlotSound i := by
  obtain ⟨-, hb, -, he⟩ := hk
  obtain ⟨hbound, henabled⟩ := h.bound hs
  exact hp.slotSound (hb.trans hbound) (he.trans henabled)

/-- Any sample leaves a sound slot sound (R47 to R56). -/
theorem SlotSound.takeSample (h : d.SlotSound i) (s : Sample) : (d.takeSample i s).SlotSound i := by
  by_cases hfree : (d.contact i).state = .free
  · have hsame : d.takeSample i s = d := by
      unfold Device.takeSample
      rw [hfree]
    rw [hsame]
    exact h
  refine h.of_placed hfree (takeSample_requests i s d).penKept ?_
  by_cases haway : (d.contact i).state = .away
  · have hp := h.arrives haway
    have hhover : (((d.setState i .hover).restartPresence i).contact i).state = .hover := by
      rw [restartPresence_state, setState, setContact_contact_same]
    have heq : d.takeSample i s = ((d.setState i .hover).restartPresence i).hoverSample i s := by
      unfold Device.takeSample
      rw [haway]
    rw [heq]
    exact (hp.idle (by rw [hhover]; exact nofun) (by rw [hhover]; exact nofun)).hoverSample hhover s
  · exact (h.placed ⟨hfree, haway⟩).takeSample s

/-- An ENTER leaves a sound slot sound (R47, R48). -/
theorem SlotSound.takeEnter (h : d.SlotSound i) : (d.takeEnter i).SlotSound i := by
  have hkept := (takeEnter_requests i d).penKept
  unfold Device.takeEnter at hkept ⊢
  split at hkept
  · exact h
  · next hs => exact h.of_placed (hs ▸ nofun) hkept (h.arrives hs)
  · next hfree haway => exact h.of_placed hfree hkept (h.placed ⟨hfree, haway⟩).restartPresence

/-- A bound slot sent to AWAY without a stroke is sound (R45). -/
theorem goAway_slotSound (hb : (d.slot i).binding = .bound) (he : (d.slot i).enabled = true) (hk : (d.context i).isOpen = false) :
    (d.goAway i).SlotSound i := by
  unfold goAway SlotSound
  rw [setContact_contact_same, setContact_slot, setContact_context, hb, he, hk]
  simp

/-- A sound slot whose stroke, if it has one, closes and which is sent to AWAY is sound. -/
theorem SlotSound.closes_away (h : d.SlotSound i) (hs : (d.contact i).state ≠ .free) (reason : CloseReason) (time : Word32) :
    ((d.closeStroke i reason time).goAway i).SlotSound i := by
  obtain ⟨hb, he⟩ := h.bound hs
  obtain ⟨-, kb, -, ke⟩ := (closeStroke_within i reason time d).penKept
  exact goAway_slotSound (kb.trans hb) (ke.trans he) (closeStroke_isOpen reason time)

theorem SlotSound.closed (h : d.SlotSound i) (hi : (d.contact i).state ≠ .inking) (hh : (d.contact i).state ≠ .holding) :
    (d.context i).isOpen = false := by
  obtain ⟨-, -, hopen, -⟩ := h
  simpa [hi, hh] using hopen

theorem SlotSound.away (h : d.SlotSound i) (hs : (d.contact i).state ≠ .free) (hi : (d.contact i).state ≠ .inking)
    (hh : (d.contact i).state ≠ .holding) : (d.goAway i).SlotSound i := by
  obtain ⟨hb, he⟩ := h.bound hs
  exact goAway_slotSound hb he (h.closed hi hh)

theorem SlotSound.takeLeave (h : d.SlotSound i) (stamp : Word32) : (d.takeLeave i stamp).SlotSound i := by
  unfold Device.takeLeave
  split
  · exact h
  · exact h
  · next hs => exact h.closes_away (hs ▸ nofun) _ _
  · next hs => exact h.closes_away (hs ▸ nofun) _ _
  · next hfree _ hink hhold => exact h.away hfree hink hhold

theorem SlotSound.dropRange (h : d.SlotSound i) (reason : CloseReason) : (d.dropRange i reason).SlotSound i := by
  unfold Device.dropRange
  split
  · exact h
  · exact h
  · next hs => exact h.closes_away (hs ▸ nofun) _ _
  · next hs => exact h.closes_away (hs ▸ nofun) _ _
  · next hfree _ hink hhold => exact h.away hfree hink hhold

/-- A stroke closed, and its slot set to a state without one (R53, R58). -/
theorem SlotSound.closes_resting (h : d.SlotSound i) (hs : (d.contact i).state = .inking ∨ (d.contact i).state = .holding)
    (reason : CloseReason) (time : Word32) {c : Contact} (hl : c.liftHold = none)
    (hp : c.presence = (d.contact i).presence) (hc : c.state = .hover ∨ c.state = .blocked) :
    ((d.closeStroke i reason time).setContact i c).SlotSound i := by
  have hrange : (d.contact i).state ≠ .free ∧ (d.contact i).state ≠ .away := by rcases hs with hs | hs <;> rw [hs] <;> exact ⟨nofun, nofun⟩
  refine h.of_placed hrange.1 (Requests.penKept ((closeStroke_requests i d reason time).tail (.contact _ c))) ?_
  exact placed_resting (closeStroke_isOpen reason time) hl (hp ▸ (h.placed hrange).present) (by tauto)

theorem SlotSound.liftHoldExpires (h : d.SlotSound i) : (d.liftHoldExpires i).SlotSound i := by
  unfold Device.liftHoldExpires
  split
  · next hs =>
    refine h.closes_resting (.inr hs.1) _ _ rfl ?_ (.inl rfl)
    rw [closeStroke_contact]
  · exact h

theorem SlotSound.retireStroke (h : d.SlotSound i) : (d.retireStroke i).SlotSound i := by
  have hcontact : (d.closeStroke i .retired d.clock).contact i = d.contact i := closeStroke_contact i i _ _ d
  unfold Device.retireStroke
  extract_lets e
  rw [show e.contact i = d.contact i from hcontact]
  split
  · next hs =>
    have hdraws := (h.placed (by rw [hs]; exact ⟨nofun, nofun⟩)).draws hs
    unfold setState
    rw [show e.contact i = d.contact i from hcontact]
    exact h.closes_resting (.inl hs) _ _ hdraws.hold rfl (.inr rfl)
  · next hs => exact h.closes_resting (.inr hs) _ _ rfl (by rw [← hcontact]) (.inl rfl)
  · next hink hhold =>
    rw [show e = d from closeStroke_of_closed (h.closed hink hhold) _ _]
    exact h

/-! ## Slots bound, freed and written -/

/-- A slot's record written with the same binding and the same switch. -/
theorem SlotSound.setSlot (h : d.SlotSound i) {p : PenSlot} (hb : p.binding = (d.slot i).binding := by rfl)
    (he : p.enabled = (d.slot i).enabled := by rfl) : (d.setSlot i p).SlotSound i := by
  unfold SlotSound
  rw [setSlot_slot_same, setSlot_contact, setSlot_context, hb, he]
  exact h

theorem freeSlot_slot_same (i : Slot) (d : Device) :
    (d.freeSlot i).slot i =
      { d.slot i with
        binding := .free, transducer := 0, lane := 0, offsetX := 0, offsetY := 0, captureArmed := false, targetX := 0, targetY := 0,
        lastSeen := 0 } := setSlot_slot_same d i _

theorem freeSlot_contact_same (i : Slot) (d : Device) : (d.freeSlot i).contact i = Contact.reset :=
  setContact_contact_same (d.setSlot i _) i _

theorem freeSlot_filter_same (i : Slot) (d : Device) : (d.freeSlot i).filter i = ⟨0, 0⟩ := setFilter_filter_same (setContact i _ _) i _

theorem freeSlot_others (i : Slot) (d : Device) : d.OthersKept i (d.freeSlot i) := fun _ hj =>
  ⟨setSlot_slot_ne d _ hj, setContact_contact_ne (d.setSlot i _) _ hj, rfl, setFilter_filter_ne (setContact i _ _) _ hj, rfl⟩

theorem forceFree_others (i : Slot) (d : Device) : d.OthersKept i (d.forceFree i) := fun j hj =>
  AgreeAt.trans ((closeStroke_within i .forced d.clock d).1 j hj) (freeSlot_others i _ j hj)

/-- A slot without a binding and without a stroke, at its reset contact fields, is sound. -/
theorem slotSound_of_freed (hb : (d.slot i).binding = .free) (hc : d.contact i = Contact.reset) (hk : (d.context i).isOpen = false) :
    d.SlotSound i := by
  unfold SlotSound
  rw [hb, hc, hk]
  simp [Contact.reset]

theorem forceFree_slotSound (i : Slot) (d : Device) : (d.forceFree i).SlotSound i := by
  refine slotSound_of_freed ?_ (freeSlot_contact_same i _) (closeStroke_isOpen _ _)
  rw [forceFree, freeSlot_slot_same]

end Device

end Sys2Proof.Machine
end

section
/-! Every step keeps each slot in agreement with itself, and no pen bound twice (R21, R41, R45, R52, R81). -/

namespace Sys2Proof.Machine

open Device

namespace Device

variable {i : Slot} {d e : Device}

theorem slotsSound_of_values (hv : e.values = d.values) (h : d.SlotsSound) : e.SlotsSound := fun j => by
  unfold SlotSound
  rw [slot_of_values hv, contact_of_values hv, context_of_values hv]
  exact h j

/-- A slot that agrees with itself, and the others left alone. -/
theorem slotsSound_of_others (h : d.SlotsSound) (ho : d.OthersKept i e) (hi : e.SlotSound i) : e.SlotsSound := fun j => by
  by_cases hj : j = i
  · exact hj ▸ hi
  · exact AgreeAt.slotSound (ho j hj) (h j)

theorem setSlot_others (i : Slot) (p : PenSlot) (d : Device) : d.OthersKept i (d.setSlot i p) := fun _ hj =>
  ⟨setSlot_slot_ne d p hj, rfl, rfl, rfl, rfl⟩

theorem setSlot_slotsSound (h : d.SlotsSound) {p : PenSlot} (hb : p.binding = (d.slot i).binding := by rfl)
    (he : p.enabled = (d.slot i).enabled := by rfl) : (d.setSlot i p).SlotsSound :=
  slotsSound_of_others h (setSlot_others i p d) (SlotSound.setSlot (h i) hb he)

theorem disableSlot_cases (i : Slot) (d : Device) :
    d.disableSlot i =
      if (d.slot i).binding = .bound then (d.forceFree i).setSlot i { (d.forceFree i).slot i with enabled := false }
      else d.setSlot i { d.slot i with enabled := false } := by
  unfold disableSlot
  split <;> rfl

theorem disableSlot_slotSound (h : d.SlotSound i) : (d.disableSlot i).SlotSound i := by
  have hwrite : ∀ e : Device, e.SlotSound i → (e.slot i).binding = .free → (e.setSlot i { e.slot i with enabled := false }).SlotSound i :=
    fun e he hb => by
      unfold SlotSound at he ⊢
      rw [setSlot_slot_same, setSlot_contact, setSlot_context]
      exact ⟨he.1, fun _ => hb, he.2.2⟩
  rw [disableSlot_cases]
  split
  · exact hwrite _ (forceFree_slotSound i d) (by rw [forceFree, freeSlot_slot_same])
  · next hb =>
    refine hwrite d h ?_
    cases hk : (d.slot i).binding with
    | free => rfl
    | bound => exact absurd hk hb

theorem disableSlot_others (i : Slot) (d : Device) : d.OthersKept i (d.disableSlot i) := by
  rw [disableSlot_cases]
  split
  · exact fun j hj => AgreeAt.trans (forceFree_others i d j hj) (setSlot_others i _ _ j hj)
  · exact setSlot_others i _ d

/-- A pen taken in leaves its slot in HOVER, bound, and its stroke closed as it was. -/
theorem takenIn_slotSound (h : d.SlotSound i) (hi : d.IsFree i ∨ (d.contact i).state = .away) (t : Word24) (l : Lane) (a : Admission)
    (stamp : Word32) : (d.takenIn i t l a stamp).SlotSound i := by
  have hcontext : (d.takenIn i t l a stamp).context i = d.context i := by rw [takenIn_eq]; rfl
  have hfree := h.1
  have hclosed : (d.context i).isOpen = false ∧ (d.slot i).enabled = true := by
    rcases hi with ⟨he, hb⟩ | ha
    · have hs := hfree.mp hb
      exact ⟨SlotSound.closed h (hs ▸ nofun) (hs ▸ nofun), he⟩
    · exact ⟨SlotSound.closed h (ha ▸ nofun) (ha ▸ nofun), (SlotSound.bound h (ha ▸ nofun)).2⟩
  unfold SlotSound
  rw [takenIn_slot_same, takenIn_contact_same, hcontext, hclosed.1]
  simp [boundSlot, hclosed.2]

theorem bindAttempt_slotsSound (h : d.SlotsSound) (t : Word24) (l : Lane) (stamp : Word32) : (d.bindAttempt t l stamp).2.SlotsSound := by
  rcases bindAttempt_cases t l stamp d with hv | ⟨i, a, he, hi⟩
  · exact slotsSound_of_values hv h
  · rw [he]
    exact slotsSound_of_others h (takenIn_others i t l a stamp d) (takenIn_slotSound (h i) hi t l a stamp)

theorem restarted_slot (i : Slot) (d : Device) : d.restarted.slot i = (d.slot i).restarted := Vector.getElem_map ..

theorem shifted_slot (v by' : Word32) (i : Slot) (d : Device) :
    Device.slot { d with clock := v, pens := { d.pens with slots := d.pens.slots.map (PenSlot.shiftSeen by') } } i =
      (d.slot i).shiftSeen by' := Vector.getElem_map ..

theorem cancelCaptureAt_slot_same (i : Slot) (d : Device) :
    (d.cancelCaptureAt i).slot i = { d.slot i with captureArmed := false } := by
  have hdisarmed := setSlot_slot_same d i { d.slot i with captureArmed := false }
  unfold cancelCaptureAt
  extract_lets p e c
  split
  · split <;> exact hdisarmed
  · next h =>
    have hoff : (d.slot i).captureArmed = false := by simpa using h
    rw [← hoff]

theorem restarted_slotSound (i : Slot) (d : Device) : d.restarted.SlotSound i := by
  have hcontact : d.restarted.contact i = Contact.reset := Vector.getElem_replicate i.isLt
  have hcontext : d.restarted.context i = StrokeContext.closed := Vector.getElem_replicate i.isLt
  refine slotSound_of_freed ?_ hcontact ?_
  · rw [restarted_slot]
    rfl
  · rw [hcontext]
    rfl

/-- The tick moves the timers on, and starts and stops none. -/
theorem tick_slotSound (h : d.SlotSound i) : d.tick.SlotSound i := by
  have hslot : d.tick.slot i = d.slot i := rfl
  have hcontext : d.tick.context i = d.context i := rfl
  have hrun : ∀ t : Option Nat, (tickTimer t).isSome = t.isSome := fun t => Option.isSome_map
  have hstop : ∀ t : Option Nat, (tickTimer t).isNone = t.isNone := fun t => Option.isNone_map
  unfold SlotSound at h ⊢
  rw [tick_contact, hslot, hcontext]
  simpa only [hrun, hstop] using h

theorem markLaneGap_isOpen (l : Lane) (i : Slot) (d : Device) : ((d.markLaneGap l).context i).isOpen = (d.context i).isOpen := by
  rw [markLaneGap_context]
  split <;> rfl

theorem cancelCaptureAt_slotSound (h : d.SlotSound i) : (d.cancelCaptureAt i).SlotSound i := by
  have hdisarmed : (d.setSlot i { d.slot i with captureArmed := false }).SlotSound i := h.setSlot
  unfold cancelCaptureAt
  extract_lets p e c
  split
  · split
    · unfold SlotSound
      rw [setContact_contact_same]
      exact hdisarmed
    · exact hdisarmed
  · exact h

theorem cancelCaptureAt_others (i : Slot) (d : Device) : d.OthersKept i (d.cancelCaptureAt i) := by
  have hdisarmed := setSlot_others i { d.slot i with captureArmed := false } d
  unfold cancelCaptureAt
  extract_lets p e c
  split
  · split
    · exact fun j hj => AgreeAt.trans (hdisarmed j hj) ((setContact_within i _ e).1 j hj)
    · exact hdisarmed
  · exact fun j _ => AgreeAt.refl j d

/-- Every operation keeps each slot in agreement with itself (R21, R41, R45, R52, R81). -/
theorem Act.slotsSound (ha : d.Act e) (h : d.SlotsSound) : e.SlotsSound := by
  cases ha with
  | aside hv => exact slotsSound_of_values hv h
  | reset v =>
    rw [hardResetDevice_eq]
    exact reset_slotsSound
  | restart => exact fun i => restarted_slotSound i d
  | tick => exact fun i => tick_slotSound (h i)
  | laneGap l =>
    intro i
    unfold SlotSound
    rw [markLaneGap_isOpen]
    exact h i
  | seen i l stamp => exact setSlot_slotsSound h
  | bind _ l stamp => exact bindAttempt_slotsSound h _ l stamp
  | sample i s => exact slotsSound_of_others h (takeSample_requests i s d).penKept.1 (SlotSound.takeSample (h i) s)
  | enter i => exact slotsSound_of_others h (takeEnter_requests i d).penKept.1 (SlotSound.takeEnter (h i))
  | leave i stamp => exact slotsSound_of_others h (takeLeave_within i stamp d).1 (SlotSound.takeLeave (h i) stamp)
  | drop i reason => exact slotsSound_of_others h (dropRange_within i reason d).1 (SlotSound.dropRange (h i) reason)
  | liftHold i => exact slotsSound_of_others h (liftHoldExpires_within i d).1 (SlotSound.liftHoldExpires (h i))
  | retire i => exact slotsSound_of_others h (retireStroke_within i d).1 (SlotSound.retireStroke (h i))
  | free i => exact slotsSound_of_others h (forceFree_others i d) (forceFree_slotSound i d)
  | enable i =>
    refine slotsSound_of_others h (setSlot_others i _ d) ?_
    unfold SlotSound
    rw [setSlot_slot_same]
    exact ⟨(h i).1, nofun, (h i).2.2⟩
  | disable i => exact slotsSound_of_others h (disableSlot_others i d) (disableSlot_slotSound (h i))
  | arm i x y => exact setSlot_slotsSound h
  | cancel i => exact slotsSound_of_others h (cancelCaptureAt_others i d) (cancelCaptureAt_slotSound (h i))
  | offset i x y => exact setSlot_slotsSound h
  | parameters i p role group colour => exact setSlot_slotsSound h
  | profile i p => exact h
  | curve i k => exact h
  | settings n guest => exact h
  | clock v by' =>
    intro i
    have hs := shifted_slot v by' i d
    unfold SlotSound
    rw [hs, PenSlot.shiftSeen]
    split <;> exact h i
  | pacing p fine => exact h

/-! ## No pen bound twice -/

/-- Slot `j`, where it is bound in `e`, holds the pen that it held in `d`. -/
def HoldsOld (j : Slot) (d e : Device) : Prop :=
  (e.slot j).binding = .bound → (d.slot j).binding = .bound ∧ (e.slot j).transducer = (d.slot j).transducer

theorem HoldsOld.of_slot {j : Slot} (h : e.slot j = d.slot j) : HoldsOld j d e := by
  intro hb
  rw [h] at hb ⊢
  exact ⟨hb, rfl⟩

/-- Pens that keep their slots, or lose them, are not bound twice. -/
theorem pensSound_of_old (h : d.PensSound) (ho : ∀ j, HoldsOld j d e) : e.PensSound := fun i j hi hj ht => by
  obtain ⟨ki, ti⟩ := ho i hi
  obtain ⟨kj, tj⟩ := ho j hj
  exact h i j ki kj (ti.symm.trans (ht.trans tj))

theorem pensSound_of_others (h : d.PensSound) (ho : d.OthersKept i e) (hi : HoldsOld i d e) : e.PensSound :=
  pensSound_of_old h fun j => by
    by_cases hj : j = i
    · exact hj ▸ hi
    · exact .of_slot (ho j hj).1

theorem pensSound_of_penKept (h : d.PensSound) (hk : PenKept i d e) : e.PensSound := by
  obtain ⟨ho, hb, ht, -⟩ := hk
  exact pensSound_of_others h ho fun k => ⟨hb ▸ k, ht⟩

theorem setSlot_pensSound (h : d.PensSound) {p : PenSlot} (hb : p.binding = (d.slot i).binding := by rfl)
    (ht : p.transducer = (d.slot i).transducer := by rfl) : (d.setSlot i p).PensSound := by
  refine pensSound_of_others h (setSlot_others i p d) fun k => ?_
  rw [setSlot_slot_same] at k ⊢
  exact ⟨hb ▸ k, ht⟩

/-- A new pen is bound to one slot alone (R21, R23). -/
theorem bindAttempt_pensSound (h : d.PensSound) {t : Word24} (hnew : d.slotOfPen t = none) (l : Lane) (stamp : Word32) :
    (d.bindAttempt t l stamp).2.PensSound := by
  rcases bindAttempt_cases t l stamp d with hv | ⟨i, a, he, -⟩
  · exact pensSound_of_old h fun j => .of_slot (slot_of_values hv j)
  · rw [he]
    have hsame := takenIn_slot_same i t l a stamp d
    have hother : ∀ j, j ≠ i → (d.takenIn i t l a stamp).slot j = d.slot j := fun j hj => (takenIn_others i t l a stamp d j hj).1
    have halone : ∀ j, j ≠ i → (d.slot j).binding = .bound → (d.slot j).transducer ≠ t := fun j _ hb ht =>
      slotOfPen_eq_none hnew j ⟨hb, ht⟩
    intro j k hj hk ht
    by_cases hji : j = i <;> by_cases hki : k = i
    · rw [hji, hki]
    · subst hji
      rw [hother k hki] at hk ht
      rw [hsame] at ht
      exact absurd ht.symm (halone k hki hk)
    · subst hki
      rw [hother j hji] at hj ht
      rw [hsame] at ht
      exact absurd ht (halone j hji hj)
    · rw [hother j hji, hother k hki] at ht
      rw [hother j hji] at hj
      rw [hother k hki] at hk
      exact h j k hj hk ht

/-- Every operation keeps a pen from being bound twice (R21). -/
theorem Act.pensSound (ha : d.Act e) (h : d.PensSound) : e.PensSound := by
  cases ha with
  | aside hv => exact pensSound_of_old h fun j => .of_slot (slot_of_values hv j)
  | reset v =>
    intro i j hi
    rw [hardResetDevice_eq] at hi
    change (Device.reset.slot i).binding = .bound at hi
    rw [reset_slot] at hi
    cases hi
  | restart =>
    intro i j hi
    rw [restarted_slot] at hi
    cases hi
  | tick => exact h
  | laneGap l => exact h
  | seen i l stamp => exact setSlot_pensSound h
  | bind hnew l stamp => exact bindAttempt_pensSound h hnew l stamp
  | sample i s => exact pensSound_of_penKept h (takeSample_requests i s d).penKept
  | enter i => exact pensSound_of_penKept h (takeEnter_requests i d).penKept
  | leave i stamp => exact pensSound_of_penKept h (takeLeave_within i stamp d).penKept
  | drop i reason => exact pensSound_of_penKept h (dropRange_within i reason d).penKept
  | liftHold i => exact pensSound_of_penKept h (liftHoldExpires_within i d).penKept
  | retire i => exact pensSound_of_penKept h (retireStroke_within i d).penKept
  | free i =>
    refine pensSound_of_others h (forceFree_others i d) fun k => ?_
    rw [forceFree, freeSlot_slot_same] at k
    cases k
  | enable i => exact setSlot_pensSound h
  | disable i =>
    refine pensSound_of_others h (disableSlot_others i d) fun k => ?_
    rw [disableSlot_cases] at k ⊢
    split at k
    · rw [setSlot_slot_same, forceFree, freeSlot_slot_same] at k
      cases k
    · next hb =>
      rw [setSlot_slot_same] at k
      exact absurd k hb
  | arm i x y => exact setSlot_pensSound h
  | cancel i =>
    refine pensSound_of_others h (cancelCaptureAt_others i d) fun k => ?_
    rw [cancelCaptureAt_slot_same] at k ⊢
    exact ⟨k, rfl⟩
  | offset i x y => exact setSlot_pensSound h
  | parameters i p role group colour => exact setSlot_pensSound h
  | profile i p => exact h
  | curve i k => exact h
  | settings n guest => exact h
  | clock v by' =>
    refine pensSound_of_old h fun j hb => ?_
    rw [shifted_slot, PenSlot.shiftSeen] at hb ⊢
    split at hb <;> exact ⟨hb, by split <;> rfl⟩
  | pacing p fine => exact h
end Device

/-- Settles O54: every step is a chain of operations, and each of them keeps the agreement of the slot that it acts on. -/
theorem slotsStaySound : Obligations.SlotsStaySound := fun _ _ h =>
  ⟨(step_acts h).keeps fun _ _ => Act.slotsSound, (step_acts h).keeps fun _ _ => Act.pensSound⟩

end Sys2Proof.Machine
end

section
/-! Every step keeps the stored values in range (R19, R20, R33, R38, R108, R115, R144). -/

namespace Sys2Proof.Machine

open Device

/-! ## Clamps and widths -/

theorem atLeastOne_ne {w : Nat} (h : 0 < w) (b : BitVec w) : atLeastOne b ≠ 0 := by
  have hone : (1 : BitVec w) ≠ 0 := fun k => by
    have hk := congrArg BitVec.toNat k
    simp [h] at hk
  unfold atLeastOne
  split
  · exact hone
  · next hb => exact hb

theorem clampProfile_clamped (p : Profile) : Profile.Clamped (clampProfile p) := by
  refine ⟨atLeastOne_ne (by decide) _, ?_, atLeastOne_ne (by decide) _⟩
  show (if 4#4 < p.smoothing then 4#4 else p.smoothing) ≤ 4
  split
  · exact BitVec.le_refl _
  · next h => exact BitVec.not_lt.mp h

theorem clampOffset_range (v : Int) : -512 ≤ clampOffset v ∧ clampOffset v ≤ 511 := by
  unfold clampOffset
  repeat' split
  all_goals omega

theorem clampWidth_ne (v : Int) : clampWidth v ≠ 0 := by
  unfold clampWidth
  split
  · decide
  · split
    · decide
    · intro h
      have hk := congrArg BitVec.toNat h
      simp at hk
      omega

/-- A width under a cap is in 1 to the cap (R115). -/
theorem capWidth_range {cap w : Byte} (h : w ≠ 0) : capWidth cap w ≠ 0 ∧ (cap ≠ 0 → capWidth cap w ≤ cap) := by
  unfold capWidth
  split
  · next hc => exact ⟨h, fun k => absurd hc k⟩
  · next hc =>
    split
    · exact ⟨hc, fun _ => BitVec.le_refl _⟩
    · next hw => exact ⟨h, fun _ => BitVec.not_lt.mp hw⟩

/-! ## Smoothing -/

/-- A rounded part never passes the whole (R108). -/
theorem roundedShift_le (v : Int) (k : Nat) : roundedShift v k ≤ max v 0 := by
  unfold roundedShift
  split
  · exact le_max_left v 0
  · next hk =>
    have hpow : 2 ^ k = 2 * 2 ^ (k - 1) := by rw [← pow_succ', Nat.sub_add_cancel (Nat.pos_of_ne_zero hk)]
    have hpos : 0 < 2 ^ (k - 1) := Nat.two_pow_pos _
    have hpart : (v.natAbs + 2 ^ (k - 1)) / 2 ^ k ≤ v.natAbs := by
      rw [hpow]
      generalize 2 ^ (k - 1) = m at hpos
      refine Nat.lt_add_one_iff.mp ((Nat.div_lt_iff_lt_mul (by omega)).mpr ?_)
      generalize v.natAbs = n
      have hle : n ≤ n * m := Nat.le_mul_of_pos_right n hpos
      nlinarith
    generalize (v.natAbs + 2 ^ (k - 1)) / 2 ^ k = part at hpart
    rcases lt_trichotomy v 0 with hv | hv | hv
    · rw [Int.sign_eq_neg_one_of_neg hv]
      omega
    · rw [hv]
      simp
    · rw [Int.sign_eq_one_of_pos hv]
      omega

/-- Smoothing keeps an axis in 0 to 1,048,560 (R108). -/
theorem smoothAxis_le (k : Nat) {s : Nat} (h : s ≤ 1048560) (target : Word16) : smoothAxis k s target ≤ 1048560 := by
  have hpart := roundedShift_le (16 * (target.toNat : Int) - s) k
  have ht := target.isLt
  unfold smoothAxis
  omega

theorem seedValue_le (p : Point) : (seedValue p).sx ≤ 1048560 ∧ (seedValue p).sy ≤ 1048560 := by
  have hx := p.x.isLt
  have hy := p.y.isLt
  constructor <;> simp only [seedValue] <;> omega

namespace Device

/-! ## What keeps the values in range -/

/-- The filter values stay in range, and so do the settings, and with them the widths. -/
def RangesKept (d e : Device) : Prop :=
  (d.FiltersSound → e.FiltersSound) ∧ (d.SettingsSound → e.SettingsSound ∧ (d.WidthsSound → e.WidthsSound))

variable {d e : Device} {i : Slot}

theorem RangesKept.refl (d : Device) : d.RangesKept d := ⟨id, fun h => ⟨h, id⟩⟩

theorem RangesKept.trans {f : Device} (h : d.RangesKept e) (k : e.RangesKept f) : d.RangesKept f :=
  ⟨k.1 ∘ h.1, fun hs => ⟨(k.2 (h.2 hs).1).1, (k.2 (h.2 hs).1).2 ∘ (h.2 hs).2⟩⟩

theorem RangesKept.ite {a b : Device} {c : Prop} [Decidable c] (h : d.RangesKept a) (k : d.RangesKept b) :
    d.RangesKept (if c then a else b) := by
  split
  · exact h
  · exact k

theorem rangesKept_of_values (h : e.values = d.values) : d.RangesKept e := by
  have hslot := slot_of_values h
  have hcontext := context_of_values h
  have hfilter := filter_of_values h
  simp only [values, Prod.mk.injEq] at h
  obtain ⟨-, hprofiles, hcurves, hcount, -, -, -, hperiod⟩ := h
  refine ⟨fun hf j => hfilter j ▸ hf j, fun ⟨h1, h2, h3, h4, h5, h6⟩ => ⟨⟨?_, ?_, ?_, ?_, ?_, ?_⟩, fun hw j => ?_⟩⟩
  · rw [hprofiles]
    exact h1
  · exact fun j => hslot j ▸ h2 j
  · rw [hcurves]
    exact h3
  · exact fun j => hslot j ▸ h4 j
  · rw [hcount]
    exact h5
  · rw [hperiod]
    exact h6
  · rw [hcontext]
    exact hw j

theorem setFilter_rangesKept {v : FilterValue} (h : d.FiltersSound → v.sx ≤ 1048560 ∧ v.sy ≤ 1048560) : d.RangesKept (d.setFilter i v) := by
  refine ⟨fun hf j => ?_, fun hs => ⟨hs, id⟩⟩
  by_cases hj : j = i
  · subst hj
    rw [setFilter_filter_same]
    exact h hf
  · rw [setFilter_filter_ne d v hj]
    exact hf j

/-- The width of a context, where its stroke is open, is in range (R115). -/
abbrev WidthInRange (k : StrokeContext) : Prop :=
  k.isOpen = true → k.lastWidth ≠ 0 ∧ (k.widthCap ≠ 0 → k.lastWidth ≤ k.widthCap)

theorem setContext_rangesKept {k : StrokeContext} (h : d.SettingsSound → WidthInRange k) : d.RangesKept (d.setContext i k) := by
  refine ⟨id, fun hs => ⟨hs, fun hw j => ?_⟩⟩
  by_cases hj : j = i
  · subst hj
    rw [setContext_context_same]
    exact h hs
  · rw [setContext_context_ne d k hj]
    exact hw j

/-- A slot's record with its parameters clamped and its offset in range (R19, R33). -/
abbrev SlotInRange (p : PenSlot) : Prop :=
  Profile.Clamped p.params ∧ -512 ≤ p.offsetX ∧ p.offsetX ≤ 511 ∧ -512 ≤ p.offsetY ∧ p.offsetY ≤ 511

/-- A slot's record with a clamped profile and an offset of 0 is in range. -/
theorem slotInRange_of_unmoved {p : PenSlot} (hp : Profile.Clamped p.params) (hx : p.offsetX = 0) (hy : p.offsetY = 0) : SlotInRange p := by
  refine ⟨hp, ?_⟩
  rw [hx, hy]
  decide

theorem SettingsSound.slot (h : d.SettingsSound) (i : Slot) : SlotInRange (d.slot i) := ⟨h.2.1 i, h.2.2.2.1 i⟩

/-- Settings are in range where every slot's record is and the rest is as before. -/
theorem SettingsSound.of_slots (h : d.SettingsSound) (hs : ∀ j, SlotInRange (e.slot j)) (hp : e.pens.profiles = d.pens.profiles := by rfl)
    (hc : e.pens.curves = d.pens.curves := by rfl) (hn : e.pens.presenceCount = d.pens.presenceCount := by rfl)
    (ht : e.framer.period = d.framer.period := by rfl) : e.SettingsSound := by
  obtain ⟨h1, -, h3, -, h5, h6⟩ := h
  exact ⟨hp ▸ h1, fun j => (hs j).1, hc ▸ h3, fun j => (hs j).2, hn ▸ h5, ht ▸ h6⟩

theorem setSlot_rangesKept {p : PenSlot} (h : d.SettingsSound → SlotInRange p) : d.RangesKept (d.setSlot i p) := by
  refine ⟨id, fun hs => ⟨SettingsSound.of_slots hs fun j => ?_, id⟩⟩
  by_cases hj : j = i
  · subst hj
    rw [setSlot_slot_same]
    exact h hs
  · rw [setSlot_slot_ne d p hj]
    exact SettingsSound.slot hs j

/-! ## The requests of the contact unit -/

theorem widthFor_range (hs : d.SettingsSound) (i : Slot) (w : PenEnd) (pressure : BitVec 12) (cap : Byte) :
    d.widthFor i w pressure cap ≠ 0 ∧ (cap ≠ 0 → d.widthFor i w pressure cap ≤ cap) := by
  refine capWidth_range ?_
  cases w with
  | tip => exact clampWidth_ne _
  | eraser => exact (SettingsSound.slot hs i).1.2.2

theorem closeStroke_values (i : Slot) (reason : CloseReason) (time : Word32) (d : Device) :
    (d.closeStroke i reason time).values = (if (d.context i).isOpen then d.setContext i StrokeContext.closed else d).values := by
  unfold closeStroke
  extract_lets k v d1 d2 d3
  split
  · have h3 : d3.values = d.values := (releaseStroke_values k.generation d2).trans (routeClose_values _ _ _ _ _ d)
    simp only [values, Prod.mk.injEq] at h3 ⊢
    obtain ⟨h1, h2, h3, h4, h5, h6, h7, h8⟩ := h3
    exact ⟨h1, h2, h3, h4, h5, congrArg (fun v : Vector StrokeContext 12 => v.set i StrokeContext.closed) h6, h7, h8⟩
  · rfl

/-- A refused contact writes its slot's contact fields, and counts. -/
theorem blockSlot_values (i : Slot) (z : ZoneNo) (d : Device) :
    (d.blockSlot i z).values = (d.setContact i { d.contact i with state := .blocked }).values := values_ite rfl rfl

theorem Request.rangesKept (h : Request i d e) : d.RangesKept e := by
  cases h with
  | contact c => exact .refl d
  | seed s => exact setFilter_rangesKept fun _ => seedValue_le _
  | smooth s => exact setFilter_rangesKept fun hf => ⟨smoothAxis_le _ (hf i).1 _, smoothAxis_le _ (hf i).2 _⟩
  | start q =>
    have hopen : d.RangesKept (d.setContext i (d.openedContext i q)) := setContext_rangesKept fun hs _ => widthFor_range hs i _ _ _
    exact hopen.trans (rangesKept_of_values (routeOpen_values _ _ (d.beforeRouting i q)))
  | emit p s =>
    refine RangesKept.trans (setContext_rangesKept fun hs _ => ?_) (rangesKept_of_values (routeSeg_values i _ _))
    exact widthFor_range hs i _ s.fields.pressure _
  | close reason time =>
    have hclosed : d.RangesKept (if (d.context i).isOpen then d.setContext i StrokeContext.closed else d) :=
      .ite (setContext_rangesKept fun _ => nofun) (.refl d)
    exact hclosed.trans (rangesKept_of_values (closeStroke_values i reason time d))
  | refuse z => exact rangesKept_of_values (d := d.setContact i _) (blockSlot_values i z d)
  | capture s =>
    exact setSlot_rangesKept fun hs => ⟨(SettingsSound.slot hs i).1, (clampOffset_range _).1, (clampOffset_range _).2, clampOffset_range _⟩

theorem Requests.rangesKept (h : Requests i d e) : d.RangesKept e := by
  induction h with
  | refl => exact .refl d
  | tail _ hr ih => exact ih.trans hr.rangesKept

/-! ## The operations -/

theorem forceFree_rangesKept (i : Slot) (d : Device) : d.RangesKept (d.forceFree i) := by
  have hfreed : ∀ e : Device, e.RangesKept (e.freeSlot i) := by
    intro e
    have hslot : e.RangesKept (setContact i Contact.reset (e.setSlot i ((e.freeSlot i).slot i))) := by
      rw [freeSlot_slot_same]
      exact setSlot_rangesKept fun hs => slotInRange_of_unmoved (SettingsSound.slot hs i).1 rfl rfl
    refine hslot.trans ?_
    rw [freeSlot_slot_same]
    exact setFilter_rangesKept fun _ => ⟨by decide, by decide⟩
  exact (Request.rangesKept (.close d .forced d.clock)).trans (hfreed _)

theorem disableSlot_rangesKept (i : Slot) (d : Device) : d.RangesKept (d.disableSlot i) := by
  have hwrite : ∀ e : Device, e.RangesKept (e.setSlot i { e.slot i with enabled := false }) := fun _ =>
    setSlot_rangesKept fun hs => SettingsSound.slot hs i
  rw [disableSlot_cases]
  exact .ite ((forceFree_rangesKept i d).trans (hwrite _)) (hwrite d)

theorem cancelCaptureAt_rangesKept (i : Slot) (d : Device) : d.RangesKept (d.cancelCaptureAt i) := by
  have hdisarmed : d.RangesKept (d.setSlot i { d.slot i with captureArmed := false }) :=
    setSlot_rangesKept fun hs => SettingsSound.slot hs i
  exact .ite (.ite (hdisarmed.trans (.refl _)) hdisarmed) (.refl d)

/-- A pen taken in gets a stored profile and an offset of 0 (R23). -/
theorem takenIn_rangesKept (i : Slot) (t : Word24) (l : Lane) (a : Admission) (stamp : Word32) (d : Device) :
    d.RangesKept (d.takenIn i t l a stamp) := by
  have hothers := takenIn_others i t l a stamp d
  have hsame := takenIn_slot_same i t l a stamp d
  have hrest := takenIn_eq i t l a stamp d
  refine ⟨fun hf j => ?_, fun hs => ⟨SettingsSound.of_slots hs (fun j => ?_) ?_ ?_ ?_ ?_, fun hw j => ?_⟩⟩
  · by_cases hj : j = i
    · subst hj
      by_cases hfree : ∀ k, ¬d.IsFree k
      · rw [(takenIn_notices_of_evicted j t l a stamp d hfree).2.2]
        exact ⟨by decide, by decide⟩
      · rw [(takenIn_notices_of_free j t l a stamp d hfree).2.2]
        exact hf j
    · obtain ⟨-, -, -, hfilter, -⟩ := hothers j hj
      rw [hfilter]
      exact hf j
  · by_cases hj : j = i
    · subst hj
      rw [hsame]
      exact slotInRange_of_unmoved (hs.1 _) rfl rfl
    · rw [(hothers j hj).1]
      exact SettingsSound.slot hs j
  all_goals rw [hrest]
  exact hw j

theorem bindAttempt_rangesKept (t : Word24) (l : Lane) (stamp : Word32) (d : Device) : d.RangesKept (d.bindAttempt t l stamp).2 := by
  rcases bindAttempt_cases t l stamp d with hv | ⟨i, a, he, -⟩
  · exact rangesKept_of_values hv
  · rw [he]
    exact takenIn_rangesKept i t l a stamp d

theorem restarted_rangesKept (d : Device) : d.RangesKept d.restarted := by
  have hfilter : ∀ j, d.restarted.filter j = ⟨0, 0⟩ := fun j => Vector.getElem_replicate j.isLt
  have hcontext : ∀ j, d.restarted.context j = StrokeContext.closed := fun j => Vector.getElem_replicate j.isLt
  refine ⟨fun _ j => ?_, fun hs => ⟨SettingsSound.of_slots hs fun j => ?_, fun _ j hk => ?_⟩⟩
  · rw [hfilter]
    exact ⟨by decide, by decide⟩
  · rw [restarted_slot]
    exact slotInRange_of_unmoved (SettingsSound.slot hs j).1 rfl rfl
  · rw [hcontext] at hk
    cases hk

/-- A marked lane gap leaves widths and caps alone. -/
theorem markLaneGap_rangesKept (l : Lane) (d : Device) : d.RangesKept (d.markLaneGap l) := by
  refine ⟨id, fun hs => ⟨hs, fun hw j => ?_⟩⟩
  have hj := hw j
  rw [markLaneGap_context]
  split <;> exact hj

/-- An entry of a table of values, written in range. -/
theorem set_inRange {α : Type} {n : Nat} {P : α → Prop} {v : Vector α n} (h : ∀ k : Fin n, P v[k]) {a : α} (ha : P a) (i k : Fin n) :
    P (v.set i a)[k] := by
  rw [Fin.getElem_fin, Vector.getElem_set]
  split
  · exact ha
  · exact h k

/-- Every operation keeps the values in range. -/
theorem Act.rangesKept (ha : d.Act e) : d.RangesKept e := by
  cases ha with
  | aside hv => exact rangesKept_of_values hv
  | reset v =>
    obtain ⟨-, -, -, -, -, -, -, -, -, -, -, hf, hs, hw⟩ := reset_sound
    rw [hardResetDevice_eq]
    exact ⟨fun _ => hf, fun _ => ⟨hs, fun _ => hw⟩⟩
  | restart => exact restarted_rangesKept d
  | tick => exact .refl d
  | laneGap l => exact markLaneGap_rangesKept l d
  | seen i l stamp => exact setSlot_rangesKept fun hs => SettingsSound.slot hs i
  | bind _ l stamp => exact bindAttempt_rangesKept _ l stamp d
  | sample i s => exact (takeSample_requests i s d).rangesKept
  | enter i => exact (takeEnter_requests i d).rangesKept
  | leave i stamp => exact (takeLeave_requests i d stamp).rangesKept
  | drop i reason => exact (dropRange_requests i d reason).rangesKept
  | liftHold i => exact (liftHoldExpires_requests i d).rangesKept
  | retire i => exact (retireStroke_requests i d).rangesKept
  | free i => exact forceFree_rangesKept i d
  | enable i => exact setSlot_rangesKept fun hs => SettingsSound.slot hs i
  | disable i => exact disableSlot_rangesKept i d
  | arm i x y => exact setSlot_rangesKept fun hs => SettingsSound.slot hs i
  | cancel i => exact cancelCaptureAt_rangesKept i d
  | offset i x y =>
    exact setSlot_rangesKept fun hs => ⟨(SettingsSound.slot hs i).1, (clampOffset_range x).1, (clampOffset_range x).2, clampOffset_range y⟩
  | parameters i p role group colour =>
    exact setSlot_rangesKept fun hs => ⟨clampProfile_clamped p, (SettingsSound.slot hs i).2⟩
  | profile i p =>
    exact ⟨id, fun ⟨h1, hrest⟩ => ⟨⟨set_inRange (P := Profile.Clamped) h1 (clampProfile_clamped p) i, hrest⟩, id⟩⟩
  | curve i k =>
    refine ⟨id, fun ⟨h1, h2, h3, hrest⟩ => ⟨⟨h1, h2, ?_, hrest⟩, id⟩⟩
    refine set_inRange (P := fun w : Knots => ∀ j : Fin 9, w[j] ≠ 0) h3 (fun j => ?_) i
    rw [clampKnots, Fin.getElem_fin, Vector.getElem_map]
    exact atLeastOne_ne (by decide) _
  | settings n guest =>
    exact ⟨id, fun ⟨h1, h2, h3, h4, _, h6⟩ => ⟨⟨h1, h2, h3, h4, atLeastOne_ne (by decide) n, h6⟩, id⟩⟩
  | clock v by' =>
    refine ⟨id, fun hs => ⟨SettingsSound.of_slots hs fun j => ?_, id⟩⟩
    rw [shifted_slot, PenSlot.shiftSeen]
    split <;> exact SettingsSound.slot hs j
  | pacing p fine =>
    exact ⟨id, fun ⟨h1, h2, h3, h4, h5, _⟩ => ⟨⟨h1, h2, h3, h4, h5, atLeastOne_ne (by decide) p⟩, id⟩⟩

end Device

/-- Settles O58: every step is a chain of operations, and each of them writes values in range. -/
theorem valuesStayInRange : Obligations.ValuesStayInRange := fun s _ h =>
  (step_acts h).keeps (P := s.dev.RangesKept) (fun _ _ ha hk => hk.trans ha.rangesKept) (.refl s.dev)

end Sys2Proof.Machine
end

section
/-! What the operands of a command name (Figure 11-3): the slot, the table entry, the role, the zone, the notice; and a command row read
as the execution of its command. -/

namespace Sys2Proof.Machine

open Device

/-! ## Operands -/

theorem ofNat_toNat_of_lt {w n : Nat} (h : n < 2 ^ w) : (BitVec.ofNat w n).toNat = n := by rw [BitVec.toNat_ofNat, Nat.mod_eq_of_lt h]

theorem slotOf_ofNat (i : Slot) : slotOf (BitVec.ofNat 4 i.val) = some i := by
  have hi : (BitVec.ofNat 4 i.val).toNat = i.val := ofNat_toNat_of_lt (by omega)
  simp only [slotOf, hi, i.isLt, dite_true]

theorem slotOf_eq_none {b : BitVec 4} (h : 12 ≤ b.toNat) : slotOf b = none := dif_neg (by omega)

theorem entryOf_ofNat (j : Fin 8) : entryOf (BitVec.ofNat 4 j.val) = some j := by
  have hj : (BitVec.ofNat 4 j.val).toNat = j.val := ofNat_toNat_of_lt (by omega)
  simp only [entryOf, hj, j.isLt, dite_true]

theorem entryOf_eq_none {b : BitVec 4} (h : 8 ≤ b.toNat) : entryOf b = none := dif_neg (by omega)

theorem rectZoneOf_eq_none {b : BitVec 5} (h : 16 ≤ b.toNat) : rectZoneOf b = none := dif_neg (by omega)

theorem roleOf_roleBits (r : Role) : roleOf (roleBits r) = some r := by cases r <;> rfl

theorem roleOf_three : roleOf 3 = none := rfl

theorem index4_ofNat (g : Group) : index4 (BitVec.ofNat 2 g.val) = g := Fin.ext (ofNat_toNat_of_lt (by omega))

theorem clampOffset_eq (v : Int) : clampOffset v = max (-512) (min 511 v) := by
  unfold clampOffset
  repeat' split
  all_goals omega

/-- A kind operand names the kind of its number, 13 to 15 none (R172). -/
theorem kindOf_eq_some : ∀ {b : BitVec 4} {k : NoticeKind}, kindOf b = some k → (kindNo k).val = b.toNat := by decide

theorem kindOf_eq_none_iff : ∀ {b : BitVec 4}, kindOf b = none ↔ 13 ≤ b.toNat := by decide

/-- A subject operand names the subject of its number (Figure 10-1). -/
theorem subjectOf_eq_some {b : BitVec 5} {s : Subject} (h : subjectOf b = some s) : subjectNo s = b.toNat := by
  unfold subjectOf at h
  split at h
  · cases h
    rfl
  · split at h
    · next hb =>
      cases h
      rw [hb]
      rfl
    · cases h

theorem subjectOf_eq_none_iff {b : BitVec 5} : subjectOf b = none ↔ 17 ≤ b.toNat ∧ b ≠ 31 := by
  unfold subjectOf
  split
  · next h => exact ⟨nofun, fun k => absurd h (by omega)⟩
  · next h =>
    split
    · next hb => exact ⟨nofun, fun k => absurd hb k.2⟩
    · next hb => exact ⟨fun _ => ⟨by omega, hb⟩, fun _ => rfl⟩

/-- A read's bounds fail where the first is above the last or the last above the limit (R28). -/
theorem rangeWithin_eq_false {first last : Byte} {limit : Nat} (h : last < first ∨ limit < last.toNat) :
    rangeWithin first last limit = false := by
  rw [rangeWithin, Bool.and_eq_false_iff, decide_eq_false_iff_not, decide_eq_false_iff_not, BitVec.not_le]
  exact h.imp_right Nat.not_le.mpr

theorem rangeWithin_eq_true {first last : Byte} {limit : Nat} (h : ¬(last < first ∨ limit < last.toNat)) :
    rangeWithin first last limit = true := by
  rw [not_or, BitVec.not_lt, Nat.not_lt] at h
  rw [rangeWithin, Bool.and_eq_true, decide_eq_true_eq, decide_eq_true_eq]
  exact h

/-! ## A command row at a ready responder -/

variable {i : Instr} {c : Command} {s : State} {tag : Word16} {code : Byte} {result : Result} {payload : List Byte} {e : Device}

/-- A command row answers as its command's execution does. -/
theorem answers_of_run (h : encodeCommand i = some c) (hr : s.dev.Ready)
    (hrun : runCommand (executed i) s.dev = e.reply tag code result payload) : Answers i s tag code result payload e := by
  have hdone := becomes_of_ready h hr
  rw [hrun] at hdone
  exact hdone

end Sys2Proof.Machine
end

section
/-! The writes of the Pen Table (R19, R20, R27, R29, R30, R32, R33, R37, R38), and the refusals (R26, R68, R158, R159). -/

namespace Sys2Proof.Machine

open Device

section
variable {tag : Word16} {code : Byte} {i : Slot} {f : Slot → Device → Device} {d : Device}

/-- A command on a BOUND slot is executed there (R26). -/
theorem onBound_of_bound (h : (d.slot i).binding = .bound) :
    d.onBound tag code (BitVec.ofNat 4 i.val) f = (f i d).reply tag code .done [] := by
  unfold onBound
  rw [slotOf_ofNat]
  exact if_neg (by rw [h]; exact nofun)

/-- A command on a FREE slot is refused with STATE (R26). -/
theorem onBound_of_free (h : (d.slot i).binding = .free) : d.onBound tag code (BitVec.ofNat 4 i.val) f = d.refuse tag code .state := by
  unfold onBound
  rw [slotOf_ofNat]
  exact if_pos h

/-- A command on no slot is refused with RANGE (R26). -/
theorem onBound_of_none {slot : BitVec 4} (h : 12 ≤ slot.toNat) : d.onBound tag code slot f = d.refuse tag code .range := by
  unfold onBound
  rw [slotOf_eq_none h]

end

/-- Settles O38: each write's operands name their entry or slot, and its execution stores them as the command's definition says. -/
theorem penTableWritesStoreClamped : Obligations.PenTableWritesStoreClamped := by
  intro s tag i j n on m k g role colour block knots count x y
  extract_lets p slot attr clamped ox oy
  intro hr
  have hx : clampOffset x.toInt = ox := clampOffset_eq _
  have hy : clampOffset y.toInt = oy := clampOffset_eq _
  refine ⟨answers_of_run rfl hr ?_, answers_of_run rfl hr rfl, answers_of_run rfl hr rfl, answers_of_run rfl hr rfl,
    answers_of_run rfl hr ?_, answers_of_run rfl hr ?_, fun hb => ⟨answers_of_run rfl hr (onBound_of_bound hb),
    fun ha => answers_of_run rfl hr ((onBound_of_bound hb).trans ?_), fun ha => ?_⟩⟩
  · show runWriteAdmission tag (BitVec.ofNat 4 j.val) on m k attr n s.dev = _
    rw [runWriteAdmission, entryOf_ofNat, roleOf_roleBits, index4_ofNat]
  · show runWriteSlotParameters tag slot block attr s.dev = _
    rw [runWriteSlotParameters, slotOf_ofNat, roleOf_roleBits, index4_ofNat]
    rfl
  · show runSetOffset tag slot x y s.dev = _
    rw [runSetOffset, slotOf_ofNat, hx, hy]
  · rw [cancelCaptureAt, if_neg (by rw [ha]; decide)]
  · refine answers_of_run rfl hr ((onBound_of_bound hb).trans ?_)
    rw [cancelCaptureAt, if_pos ha]
    rfl

end Sys2Proof.Machine
end

section
/-! The checks that refuse a command, each in its turn (R26, R28, R68, R78, R134, R158, R159, R172, R174, R177). -/

namespace Sys2Proof.Machine

open Device

section
variable {tag : Word16} {d : Device}

/-! ## RANGE -/

theorem tableRead_refused {t : ReadTarget} {first last : Byte} {limit : Nat} (h : last < first ∨ limit < last.toNat) :
    d.tableRead tag t first last limit = d.refuse tag t.code .range := by
  rw [tableRead, rangeWithin_eq_false h]
  rfl

theorem runWriteAdmission_refused {slot : BitVec 4} {on : Bool} {m k : Word24} {attr : AttributeBits} {n : BitVec 2}
    (h : 8 ≤ slot.toNat ∨ attr.role = 3) : runWriteAdmission tag slot on m k attr n d = d.refuse tag 0x20 .range := by
  unfold runWriteAdmission
  split
  · next hi hrole =>
    rcases h with h | h
    · cases (entryOf_eq_none h).symm.trans hi
    · cases roleOf_three.symm.trans (h ▸ hrole)
  · rfl

theorem runWriteSlotParameters_refused {slot : BitVec 4} {block : Profile} {attr : AttributeBits} (h : 12 ≤ slot.toNat ∨ attr.role = 3) :
    runWriteSlotParameters tag slot block attr d = d.refuse tag 0x27 .range := by
  unfold runWriteSlotParameters
  split
  · next hi hrole =>
    rcases h with h | h
    · cases (slotOf_eq_none h).symm.trans hi
    · cases roleOf_three.symm.trans (h ▸ hrole)
  · rfl

theorem runSetOffset_refused {slot : BitVec 4} {x y : Word16} (h : 12 ≤ slot.toNat) :
    runSetOffset tag slot x y d = d.refuse tag 0x28 .range := by
  rw [runSetOffset, slotOf_eq_none h]

theorem runSetSlotEnable_refused {slot : BitVec 4} {on : Bool} (h : 12 ≤ slot.toNat) :
    runSetSlotEnable tag slot on d = d.refuse tag 0x29 .range := by
  rw [runSetSlotEnable, slotOf_eq_none h]

theorem runReadSlot_refused {first last part : Byte} (h : (last < first ∨ 11 < last.toNat) ∨ 2 < part) :
    runReadSlot tag first last part d = d.refuse tag 0x26 .range := by
  unfold runReadSlot
  split
  · rfl
  · next hp => exact tableRead_refused (h.resolve_right hp)

theorem runReadStroke_refused {first last part : Byte} (h : (last < first ∨ 11 < last.toNat) ∨ 1 < part) :
    runReadStroke tag first last part d = d.refuse tag 0x40 .range := by
  unfold runReadStroke
  split
  · rfl
  · next hp => exact tableRead_refused (h.resolve_right hp)

theorem runReadZone_refused {first last : Byte} {n : BitVec 2} (h : (last < first ∨ 16 < last.toNat) ∨ 1 < n) :
    runReadZone tag n first last d = d.refuse tag 0x33 .range := by
  refine if_pos ?_
  rw [Bool.or_eq_true, decide_eq_true_eq, Bool.not_eq_true']
  exact h.symm.imp_right rangeWithin_eq_false

theorem runSetLevel_refused {kind : BitVec 4} {l : BitVec 3} (h : 13 ≤ kind.toNat) :
    runSetLevel tag kind l d = d.refuse tag 0x62 .range := by
  rw [runSetLevel, kindOf_eq_none_iff.mpr h]

theorem runAck_refused {kind : BitVec 4} {subject : BitVec 5} (h : 13 ≤ kind.toNat ∨ 17 ≤ subject.toNat ∧ subject ≠ 31) :
    runAck tag kind subject d = d.refuse tag 0x61 .range := by
  unfold runAck
  split
  · next hk hs =>
    rcases h with h | h
    · cases (kindOf_eq_none_iff.mpr h).symm.trans hk
    · cases (subjectOf_eq_none_iff.mpr h).symm.trans hs
  · rfl

/-! ## LOCKED, then BUSY -/

/-- The refusal of a zone write under the lock, and in RETIRING without it (R68). -/
theorem writeStaging_locked {code : Byte} {f : Bank → Bank} (h : d.zones.locked = true) :
    d.writeStaging tag code f = d.refuse tag code .locked :=
  if_pos h

theorem writeStaging_busy {code : Byte} {f : Bank → Bank} (hl : d.zones.locked = false) (ha : d.zones.apply = .retiring) :
    d.writeStaging tag code f = d.refuse tag code .busy := by
  rw [writeStaging, if_neg (by rw [hl]; decide), if_pos ha]

theorem rectZoneOf_of_lt {zone : BitVec 5} (h : zone.toNat < 16) : rectZoneOf zone = some ⟨zone.toNat, h⟩ := dif_pos h

/-- A write of a rectangle is a zone write (R75). -/
theorem runWriteZoneRect_staging {zone : BitVec 5} (h : zone.toNat < 16) (x y u v : Word16) :
    ∃ f, runWriteZoneRect tag zone x y u v d = d.writeStaging tag 0x30 f := by
  rw [runWriteZoneRect, rectZoneOf_of_lt h]
  exact ⟨_, rfl⟩

theorem runWriteZoneRect_refused {zone : BitVec 5} {x y u v : Word16} (h : 16 ≤ zone.toNat) :
    runWriteZoneRect tag zone x y u v d = d.refuse tag 0x30 .range := by
  rw [runWriteZoneRect, rectZoneOf_eq_none h]

/-- A write of a rectangle's attributes is a zone write (R76). -/
theorem runWriteZoneAttributes_staging {zone : BitVec 5} (h : zone.toNat < 16) (on : Bool) (rules : ZoneRules) :
    ∃ f, runWriteZoneAttributes tag zone on rules d = d.writeStaging tag 0x31 f := by
  rw [runWriteZoneAttributes, rectZoneOf_of_lt h]
  exact ⟨_, rfl⟩

theorem runWriteZoneAttributes_refused {zone : BitVec 5} {on : Bool} {rules : ZoneRules} (h : 16 ≤ zone.toNat) :
    runWriteZoneAttributes tag zone on rules d = d.refuse tag 0x31 .range := by
  rw [runWriteZoneAttributes, rectZoneOf_eq_none h]

theorem runWriteOpenArea_locked {rules : ZoneRules} (h : d.zones.locked = true) :
    runWriteOpenArea tag rules d = d.refuse tag 0x32 .locked := writeStaging_locked h

theorem runWriteOpenArea_busy {rules : ZoneRules} (hl : d.zones.locked = false) (ha : d.zones.apply = .retiring) :
    runWriteOpenArea tag rules d = d.refuse tag 0x32 .busy := writeStaging_busy hl ha

theorem runApply_busy (hl : d.zones.locked = false) (ha : d.zones.apply = .retiring) : runApply tag d = d.refuse tag 0x34 .busy := by
  rw [runApply, if_neg (by rw [hl]; decide), if_pos ha]

theorem runReadZone_busy {first last : Byte} (h : ¬(last < first ∨ 16 < last.toNat)) (ha : d.zones.apply = .retiring) :
    runReadZone tag 1 first last d = d.refuse tag 0x33 .busy := by
  rw [runReadZone, rangeWithin_eq_true h]
  exact if_pos (And.intro rfl ha)

theorem runShareEnable_busy (h : d.framer.state = .draining) : runShareEnable tag d = d.refuse tag 0x51 .busy := by rw [runShareEnable, h]

/-! ## STATE -/

theorem runShareEnable_unwritten (h : d.framer.state = .disabled) (hw : d.framer.written = false) :
    runShareEnable tag d = d.refuse tag 0x51 .state := by
  rw [runShareEnable, h]
  exact if_neg (by rw [hw]; decide)

/-- An ACK of a notice that does not stand is refused (R174). -/
theorem runAck_absent {kind : BitVec 4} {subject : BitVec 5} (hk : kind.toNat < 13) (hs : subject.toNat < 17 ∨ subject = 31)
    (h : ∀ e ∈ d.notices.entries, (kindNo e.kind).val ≠ kind.toNat ∨ subjectNo e.subject ≠ subject.toNat) :
    runAck tag kind subject d = d.refuse tag 0x61 .state := by
  obtain ⟨k, hkind⟩ := Option.ne_none_iff_exists'.mp fun hn => Nat.not_le.mpr hk (kindOf_eq_none_iff.mp hn)
  obtain ⟨s, hsubject⟩ := Option.ne_none_iff_exists'.mp fun hn =>
    (subjectOf_eq_none_iff.mp hn).elim fun hge hne => hs.elim (fun hlt => Nat.not_le.mpr hlt hge) hne
  have hnone : d.notices.entries.find? (NoticeEntry.names k s) = none := by
    rw [List.find?_eq_none]
    intro e he hnames
    rw [NoticeEntry.names, Bool.and_eq_true, decide_eq_true_eq, decide_eq_true_eq] at hnames
    obtain ⟨rfl, rfl⟩ := hnames
    exact (h e he).elim (absurd (kindOf_eq_some hkind)) (absurd (subjectOf_eq_some hsubject))
  rw [runAck, hkind, hsubject]
  simp only [hnone]

end

/-- Settles O48: the check that fails answers the refusal. -/
theorem refusedCommandsOnlyReply : Obligations.RefusedCommandsOnlyReply := by
  intro s tag c slot zone n g l first last part on m k attr block x y u v rules i
  extract_lets z away
  intro hr
  have hrect : zone.toNat < 16 → _ := fun hz => runWriteZoneRect_staging (tag := tag) (d := s.dev) hz x y u v
  have hattributes : zone.toNat < 16 → _ := fun hz => runWriteZoneAttributes_staging (tag := tag) (d := s.dev) hz on rules
  refine ⟨fun h => answers_of_run rfl hr (runWriteAdmission_refused h), fun h => answers_of_run rfl hr (tableRead_refused h),
    fun h => ⟨answers_of_run rfl hr (tableRead_refused h), answers_of_run rfl hr (tableRead_refused h)⟩,
    fun h => answers_of_run rfl hr (runReadSlot_refused h), fun h => answers_of_run rfl hr (runReadStroke_refused h),
    fun h => answers_of_run rfl hr (runReadZone_refused h), fun h => answers_of_run rfl hr (if_pos h),
    fun h => answers_of_run rfl hr (runWriteSlotParameters_refused h), fun h => ?noSlot, fun hi h => ?freeSlot, fun h => ?noZone,
    fun hl => ?locked, fun ha => ?retiring, fun h => answers_of_run rfl hr (runShareEnable_busy h),
    fun h hw => answers_of_run rfl hr (runShareEnable_unwritten h hw), fun hw => answers_of_run rfl hr (if_pos hw),
    fun h => answers_of_run rfl hr (runSetLevel_refused h), fun h => answers_of_run rfl hr (runAck_refused h),
    fun hk hs h => answers_of_run rfl hr (runAck_absent hk hs h), answers_of_run rfl hr rfl⟩
  case noSlot =>
    exact ⟨answers_of_run rfl hr (runSetOffset_refused h), answers_of_run rfl hr (runSetSlotEnable_refused h),
      answers_of_run rfl hr (onBound_of_none h), answers_of_run rfl hr (onBound_of_none h), answers_of_run rfl hr (onBound_of_none h),
      answers_of_run rfl hr (onBound_of_none h)⟩
  case freeSlot =>
    subst hi
    exact ⟨answers_of_run rfl hr (onBound_of_free h), answers_of_run rfl hr (onBound_of_free h), answers_of_run rfl hr (onBound_of_free h),
      answers_of_run rfl hr (onBound_of_free h)⟩
  case noZone =>
    exact ⟨answers_of_run rfl hr (runWriteZoneRect_refused h), answers_of_run rfl hr (runWriteZoneAttributes_refused h)⟩
  case locked =>
    refine ⟨fun hz => ?_, answers_of_run rfl hr (runWriteOpenArea_locked hl), answers_of_run rfl hr (if_pos hl),
      answers_of_run rfl hr (if_pos hl)⟩
    obtain ⟨f, hf⟩ := hrect hz
    obtain ⟨f', hf'⟩ := hattributes hz
    exact ⟨answers_of_run rfl hr (hf.trans (writeStaging_locked hl)), answers_of_run rfl hr (hf'.trans (writeStaging_locked hl))⟩
  case retiring =>
    refine ⟨fun hl => ⟨fun hz => ?_, answers_of_run rfl hr (runWriteOpenArea_busy hl ha), answers_of_run rfl hr (runApply_busy hl ha)⟩,
      fun h => answers_of_run rfl hr (runReadZone_busy h ha)⟩
    obtain ⟨f, hf⟩ := hrect hz
    obtain ⟨f', hf'⟩ := hattributes hz
    exact ⟨answers_of_run rfl hr (hf.trans (writeStaging_busy hl ha)), answers_of_run rfl hr (hf'.trans (writeStaging_busy hl ha))⟩

end Sys2Proof.Machine
end

section
/-! A new pen that is refused: no terms for it, or no slot (R17, R18, R23, R24). -/

namespace Sys2Proof.Machine

open Device

section
variable {t : Word24} {l : Lane} {stamp : Word32} {d : Device}

/-- No entry gives a pen terms, and guests get none, exactly where the lookup gives none (R17, R18). -/
theorem PenTable.termsFor_eq_none_iff (p : PenTable) (t : Word24) :
    p.termsFor t = none ↔ p.guestAdmission = false ∧ ∀ j : Fin 8, ¬(p.admission[j]).Matches t := by
  unfold PenTable.termsFor
  cases h : (List.finRange 8).find? fun i => (p.admission[i]).accepts t with
  | some i => exact ⟨nofun, fun k => absurd ((AdmissionEntry.accepts_iff _ t).mp ((find_finRange_iff _ i).mp h).1) (k.2 i)⟩
  | none =>
    have hnone : ∀ j : Fin 8, ¬(p.admission[j]).Matches t := fun j k =>
      List.find?_eq_none.mp h j (List.mem_finRange j) ((AdmissionEntry.accepts_iff _ t).mpr k)
    cases hg : p.guestAdmission with
    | true => exact ⟨nofun, fun k => absurd k.1 (by decide)⟩
    | false => exact ⟨fun _ => ⟨rfl, hnone⟩, fun _ => rfl⟩

namespace Device

/-- With no slot AWAY, none is the oldest AWAY one. -/
theorem oldestAway_eq_none (h : ∀ i, (d.contact i).state ≠ .away) : d.oldestAway = none := by
  cases ho : d.oldestAway with
  | none => rfl
  | some i => exact absurd (oldestAway_away ho) (h i)

theorem chooseSlot_eq_none (h : ∀ i, ¬d.IsFree i ∧ (d.contact i).state ≠ .away) : d.chooseSlot = none := by
  rw [chooseSlot, freeSlotNo_eq_none fun i => (h i).1]
  simp only [oldestAway_eq_none fun i => (h i).2]

/-- A pen without terms is refused: the miss counted and posted (R18). -/
theorem bindAttempt_unknown (h : d.pens.termsFor t = none) :
    d.bindAttempt t l stamp =
      (none,
        { d with
          pens := { d.pens with misses := satInc d.pens.misses }
          notices := d.notices.post .unknownPen (laneSubject l) }) := by
  unfold bindAttempt
  rw [h]
  rfl

/-- A pen without a slot is refused: the full table counted and posted (R24). -/
theorem bindAttempt_full (h : d.pens.termsFor t ≠ none) (hfull : ∀ i, ¬d.IsFree i ∧ (d.contact i).state ≠ .away) :
    d.bindAttempt t l stamp =
      (none,
        { d with
          pens := { d.pens with tableFull := satInc d.pens.tableFull }
          notices := d.notices.post .penTableFull (laneSubject l) }) := by
  obtain ⟨a, ha⟩ := Option.ne_none_iff_exists'.mp h
  unfold bindAttempt
  rw [ha]
  simp only [chooseSlot_eq_none hfull]
  rfl

end Device

variable {s : State} {cell : Cell} {n : BitVec 4} {e : Device}

/-- The cell of a refused pen leaves the device as the bind attempt does, behind the lane check. -/
theorem becomes_of_refused_sample {f : SampleFields} (hup : s.dev.receiver.link = .up) (hnew : s.dev.slotOfPen f.transducer = none)
    (hb : (s.dev.checkSequence l n).bindAttempt f.transducer l s.dev.clock = (none, e)) (hc : classify cell = .sample l n f) :
    Becomes (.sample cell) s e := by
  show s.onDevice (cellArrives cell) = _
  have hnew' := (slotOfPen_congr (checkSequence_pens l n s.dev) f.transducer).trans hnew
  rw [State.onDevice_eq, cellArrives_of_sample hup hc, arriveSample, penSample, hnew']
  simp only [hb]

theorem becomes_of_refused_proximity (hup : s.dev.receiver.link = .up) (hnew : s.dev.slotOfPen t = none)
    (hb : (s.dev.checkSequence l n).bindAttempt t l s.dev.clock = (none, e)) (hc : classify cell = .proximity l n t .enter) :
    Becomes (.proximity cell) s e := by
  show s.onDevice (cellArrives cell) = _
  have hnew' := (slotOfPen_congr (checkSequence_pens l n s.dev) t).trans hnew
  rw [State.onDevice_eq, cellArrives_of_proximity hup hc, arriveProximity, penProximity_of_new hnew', hb]

end

/-- Settles O9: a bind attempt ends without terms, or without a slot, and the Pen Table is read as it stood before the lane check. -/
theorem refusedPensChangeNoSlot : Obligations.RefusedPensChangeNoSlot := by
  intro s cell l n f t
  have hpens := checkSequence_pens l n s.dev
  refine ⟨s.dev.pens.termsFor_eq_none_iff t, fun hup hnew hterms => ?_, fun hup hnew hterms hfull => ?_⟩
  · have hb : (s.dev.checkSequence l n).bindAttempt t l s.dev.clock = _ := bindAttempt_unknown (by rw [hpens]; exact hterms)
    rw [hpens] at hb
    exact ⟨fun hc ht => becomes_of_refused_sample hup (ht ▸ hnew) (ht ▸ hb) hc, becomes_of_refused_proximity hup hnew hb⟩
  · have hfull' : ∀ i, ¬(s.dev.checkSequence l n).IsFree i ∧ ((s.dev.checkSequence l n).contact i).state ≠ .away := fun i => by
      rw [IsFree, slot, contact, hpens, checkSequence_contacts]
      exact hfull i
    have hb : (s.dev.checkSequence l n).bindAttempt t l s.dev.clock = _ := bindAttempt_full (by rw [hpens]; exact hterms) hfull'
    rw [hpens] at hb
    exact ⟨fun hc ht => becomes_of_refused_sample hup (ht ▸ hnew) (ht ▸ hb) hc, becomes_of_refused_proximity hup hnew hb⟩

end Sys2Proof.Machine
end

section
/-! A cell of a bound pen: the slot as the cell finds it, and the presence that it refreshes (R22, R45, R47, R48). -/

namespace Sys2Proof.Machine

namespace Device

variable (i : Slot) (l : Lane) (n : BitVec 4) (d : Device)

/-! ## The slot as the cell finds it -/

theorem reached_slot : (d.reached i l n).slot i = { d.slot i with lastSeen := d.clock, lane := l } := by
  rw [reached, seen, setSlot_slot_same, slot, checkSequence_pens]
  rfl

theorem reached_contact (j : Slot) : (d.reached i l n).contact j = d.contact j :=
  congrArg (fun v : Vector Contact 12 => v[j]) (checkSequence_contacts l n d)

theorem received_slot : (d.received i l n).slot i = { d.slot i with lastSeen := d.clock, lane := l } := reached_slot i l n d

theorem received_contact : (d.received i l n).contact i = { d.contact i with presence := some (10 * d.pens.presenceCount.toNat) } := by
  have htimeout : (d.reached i l n).presenceTimeout = 10 * d.pens.presenceCount.toNat := by
    show 10 * (d.checkSequence l n).pens.presenceCount.toNat = _
    rw [checkSequence_pens]
  rw [received, restartPresence, setContact_contact_same, reached_contact, htimeout]

theorem received_state : ((d.received i l n).contact i).state = (d.contact i).state := by rw [received_contact]

/-- A slot's timer and its state are written independently. -/
theorem restartPresence_setState (c : ContactState) : (d.setState i c).restartPresence i = (d.restartPresence i).setState i c := by
  simp only [restartPresence, setState, setContact_contact_same, setContact_setContact]
  rfl

variable {i d} in
/-- A sample finds an AWAY pen in HOVER, its presence timer started (R47). -/
theorem takeSample_of_away (h : (d.contact i).state = .away) (s : Sample) :
    d.takeSample i s = ((d.restartPresence i).setState i .hover).hoverSample i s := by
  unfold takeSample
  rw [h]
  exact congrArg (hoverSample i s) (restartPresence_setState i d .hover)

variable {i d} in
theorem takeEnter_of_away (h : (d.contact i).state = .away) : d.takeEnter i = (d.restartPresence i).setState i .hover := by
  unfold takeEnter
  rw [h]
  exact restartPresence_setState i d .hover

variable {i d} in
/-- An ENTER in range restarts the presence timer alone (R45, R48). -/
theorem takeEnter_of_present (haway : (d.contact i).state ≠ .away) (hfree : (d.contact i).state ≠ .free) :
    d.takeEnter i = d.restartPresence i := by
  unfold takeEnter
  split
  · next hs => exact absurd hs hfree
  · next hs => exact absurd hs haway
  · rfl

variable {i d} in
/-- A sample below the down threshold is ignored in HOVER (R48). -/
theorem hoverSample_below {s : Sample} (h : s.fields.pressure < (d.slot i).params.down) : d.hoverSample i s = d := if_pos h

/-- The lane check does not read the contact states. -/
theorem checkSequence_setContact (c : Contact) : (d.setContact i c).checkSequence l n = (d.checkSequence l n).setContact i c := by
  have hlane : (d.setContact i c).lane l = d.lane l := rfl
  unfold checkSequence
  rw [hlane]
  split <;> rfl

theorem reached_setState (c : ContactState) : (d.setState i c).reached i l n = (d.reached i l n).setState i c := by
  rw [reached, setState, checkSequence_setContact, setState, reached_contact]
  rfl

end Device

open Device

/-! ## The cell's row -/

section
variable {s : State} {cell : Cell} {i : Slot} {l : Lane} {n : BitVec 4} {f : SampleFields} {t : Word24}

/-- A sample of a bound pen is taken at its slot (R22). -/
theorem becomes_of_sample (h : SampleFor s cell i l n f) :
    Becomes (.sample cell) s ((s.dev.reached i l n).takeSample i ⟨f, s.dev.clock⟩) := by
  obtain ⟨hup, hc, hbound⟩ := h
  show s.onDevice (cellArrives cell) = _
  rw [State.onDevice_eq, cellArrives_of_sample hup hc, arriveSample, penSample, slotOfPen_congr (checkSequence_pens l n s.dev), hbound]
  rfl

/-- An ENTER of a bound pen is taken at its slot (R22). -/
theorem becomes_of_enter (h : ProximityFor s cell i l n t .enter) : Becomes (.proximity cell) s ((s.dev.reached i l n).takeEnter i) := by
  obtain ⟨hup, hc, hbound⟩ := h
  show s.onDevice (cellArrives cell) = _
  rw [State.onDevice_eq, cellArrives_of_proximity hup hc, arriveProximity]
  unfold penProximity
  rw [slotOfPen_congr (checkSequence_pens l n s.dev), hbound]
  rfl

/-- A LEAVE of a bound pen is taken at its slot (R22). -/
theorem becomes_of_leave (h : ProximityFor s cell i l n t .leave) :
    Becomes (.proximity cell) s ((s.dev.reached i l n).takeLeave i s.dev.clock) := by
  obtain ⟨hup, hc, hbound⟩ := h
  show s.onDevice (cellArrives cell) = _
  rw [State.onDevice_eq, cellArrives_of_proximity hup hc, arriveProximity]
  unfold penProximity
  rw [slotOfPen_congr (checkSequence_pens l n s.dev), hbound]
  rfl

/-- A sample in HOVER is judged with the presence timer restarted (R45, R48). -/
theorem becomes_of_hover (h : SampleFor s cell i l n f) (hs : (s.dev.contact i).state = .hover) :
    Becomes (.sample cell) s ((s.dev.received i l n).hoverSample i ⟨f, s.dev.clock⟩) := by
  have hrow := becomes_of_sample h
  rw [takeSample_of_hover (by rw [reached_contact, hs])] at hrow
  exact hrow

/-- A sample in AWAY is judged as one in HOVER (R47). -/
theorem becomes_of_away (h : SampleFor s cell i l n f) (hs : (s.dev.contact i).state = .away) :
    Becomes (.sample cell) s (((s.dev.received i l n).setState i .hover).hoverSample i ⟨f, s.dev.clock⟩) := by
  have hrow := becomes_of_sample h
  rw [takeSample_of_away (by rw [reached_contact, hs])] at hrow
  exact hrow

/-- An AWAY slot's sample is taken as if the slot were in HOVER already (R47). -/
theorem exec_sample_of_away (h : SampleFor s cell i l n f) (hs : (s.dev.contact i).state = .away) :
    exec (.sample cell) s = exec (.sample cell) ⟨s.dev.setState i .hover, s.pending⟩ := by
  have hhover : ((s.dev.setState i .hover).contact i).state = .hover := by rw [setState, setContact_contact_same]
  have hother := becomes_of_hover (s := ⟨s.dev.setState i .hover, s.pending⟩) h hhover
  rw [received, reached_setState, restartPresence_setState] at hother
  exact (becomes_of_away h hs).trans hother.symm

end

/-- Settles O11: the cell's row is its slot's operation at the device that the cell reaches. -/
theorem penCellsRefreshPresence : Obligations.PenCellsRefreshPresence := by
  intro s cell i l n f t
  have hslot := received_slot i l n s.dev
  refine ⟨hslot, received_contact i l n s.dev, fun h hlow => ⟨fun hs => ?_, fun hs => ?_⟩, exec_sample_of_away,
    fun h => ⟨fun hs => ?_, fun h1 h2 => ?_⟩⟩
  · have hrow := becomes_of_hover h hs
    rw [hoverSample_below (by rw [hslot]; exact hlow)] at hrow
    exact hrow
  · have hrow := becomes_of_away h hs
    rw [hoverSample_below (by rw [setState, setContact_slot, hslot]; exact hlow)] at hrow
    exact hrow
  · have hrow := becomes_of_enter h
    rw [takeEnter_of_away (by rw [reached_contact, hs])] at hrow
    exact hrow
  · have hrow := becomes_of_enter h
    rw [takeEnter_of_present (by rw [reached_contact]; exact h1) (by rw [reached_contact]; exact h2)] at hrow
    exact hrow

end Sys2Proof.Machine
end

section
/-! Offset capture: the wait that the contact begin of an armed slot starts, and the offset that its last sample measures (R37, R47, R49,
R56). -/

namespace Sys2Proof.Machine

namespace Device

section
variable {i : Slot} {s : Sample} {d x : Device} {count : Nat}

/-- The offset measured: the target minus the raw point, in range, capture disarmed, the wait ended and OFFSET_CAPTURED posted. -/
def Captured (i : Slot) (s : Sample) (d e : Device) : Prop :=
  e.slot i =
    { d.slot i with
      offsetX := max (-512) (min 511 (((d.slot i).targetX.toNat : Int) - s.fields.x.toNat))
      offsetY := max (-512) (min 511 (((d.slot i).targetY.toNat : Int) - s.fields.y.toNat))
      captureArmed := false } ∧
  e.contact i = { d.contact i with state := .capture, settle := 0, wait := .ended } ∧
  e.notices = d.notices.post .offsetCaptured (slotSubject i) ∧ e.strokes = d.strokes ∧ e.router = d.router ∧
  e.zones = d.zones ∧ d.OthersKept i e

/-- The last sample of a capture wait measures the offset of a slot in CAPTURE whose counter is down to 0. -/
theorem completeCapture_captured (hx : x = { d with contacts := x.contacts, filters := x.filters }) (ho : d.OthersKept i x)
    (hc : { x.contact i with wait := .ended } = { d.contact i with state := .capture, settle := 0, wait := .ended }) :
    d.Captured i s (x.completeCapture i s) := by
  have hslot : x.slot i = d.slot i := by
    rw [hx]
    rfl
  have hrest : x.notices = d.notices ∧ x.strokes = d.strokes ∧ x.router = d.router ∧ x.zones = d.zones := by
    rw [hx]
    exact ⟨rfl, rfl, rfl, rfl⟩
  obtain ⟨hnotices, hstrokes, hrouter, hzones⟩ := hrest
  refine ⟨?_, ?_, congrArg (NoticeQueue.post _ _) hnotices, hstrokes, hrouter, hzones,
    fun j hj => AgreeAt.trans (ho j hj) (completeCapture_others i s x j hj)⟩
  · rw [completeCapture_slot_same, clampOffset_eq, clampOffset_eq, hslot]
  · rw [completeCapture_contact_same, hc]

/-! ## The contact begin -/

/-- The device once the capture wait of slot `i` stands with `count` samples to come, its filter seeded (R49). -/
def captureBegun (i : Slot) (s : Sample) (count : Nat) (d : Device) : Device :=
  (d.setFilter i (seedValue (d.corrected i s))).setContact i { d.contact i with state := .capture, wait := .waiting, settle := count }

theorem captureBegun_setState (c : ContactState) : (d.setState i c).captureBegun i s count = d.captureBegun i s count := by
  have hcontact : (d.setState i c).contact i = { d.contact i with state := c } := setContact_contact_same d i _
  rw [captureBegun, hcontact]
  exact setContact_setContact i _ _ (d.setFilter i _)

/-- An allowed contact at or above the down threshold begins the wait of an armed slot; a wait of no samples ends at once (R48, R49). -/
theorem hoverSample_of_armed (hp : ¬s.fields.pressure < (d.slot i).params.down)
    (ha : d.allows i (d.effectiveEnd i s) (d.activeZone i s) = true) (harmed : (d.slot i).captureArmed = true) :
    d.hoverSample i s =
      if (d.slot i).params.settleCount.toNat = 0 then (d.captureBegun i s (d.slot i).params.settleCount.toNat).completeCapture i s
      else d.captureBegun i s (d.slot i).params.settleCount.toNat := by
  have hallowed : (d.seedFilter i s).allows i ((d.seedFilter i s).effectiveEnd i s) ((d.seedFilter i s).activeZone i s) = true := ha
  have harmed' : ((d.seedFilter i s).slot i).captureArmed = true := harmed
  rw [hoverSample, if_neg hp]
  unfold contactBegin
  extract_lets e zone n waiting
  rw [if_neg (by rw [hallowed]; decide), if_pos harmed']
  rfl

/-- A wait of no samples measures the offset at the contact begin. -/
theorem captureBegun_captured : d.Captured i s ((d.captureBegun i s 0).completeCapture i s) := by
  refine completeCapture_captured rfl ((setFilter_within i _ d).trans (setContact_within i _ _)).1 ?_
  rw [captureBegun, setContact_contact_same]

theorem captureBegun_filter : ((d.captureBegun i s 0).completeCapture i s).filter i = seedValue (d.corrected i s) :=
  setFilter_filter_same d i _

/-! ## The samples of the wait -/

theorem takeSample_of_capture (h : (d.contact i).state = .capture) : d.takeSample i s = (d.restartPresence i).captureSample i s := by
  unfold takeSample
  rw [h]

theorem captureSample_below (hp : s.fields.pressure < effectiveUp (d.slot i).params) :
    d.captureSample i s = d.setContact i { d.contact i with state := .hover, settle := 0, wait := .ended } := if_pos hp

theorem captureSample_ended (hp : ¬s.fields.pressure < effectiveUp (d.slot i).params) (hw : (d.contact i).wait = .ended) :
    d.captureSample i s = d := by
  rw [captureSample, if_neg hp, hw]

theorem captureSample_waiting (hp : ¬s.fields.pressure < effectiveUp (d.slot i).params) (hw : (d.contact i).wait = .waiting) :
    d.captureSample i s =
      let e := d.setContact i { d.contact i with settle := (d.contact i).settle - 1 }
      if (d.contact i).settle - 1 = 0 then e.completeCapture i s else e := by
  rw [captureSample, if_neg hp, hw]

/-- The last sample of a wait measures the offset (R56). -/
theorem captureCounted_captured (hs : (d.contact i).state = .capture) :
    d.Captured i s ((d.setContact i { d.contact i with settle := 0 }).completeCapture i s) := by
  refine completeCapture_captured rfl (setContact_within i _ d).1 ?_
  rw [setContact_contact_same, ← hs]

end

end Device

open Device

section
variable {s : State} {cell : Cell} {i : Slot} {l : Lane} {n : BitVec 4} {f : SampleFields}

/-- The contact begin of an armed slot, from HOVER and from AWAY (R47, R49). -/
theorem becomes_of_armed {d : Device} {q : Sample} (hd : s.dev.received i l n = d) (hq : ⟨f, s.dev.clock⟩ = q)
    (h : SampleFor s cell i l n f)
    (hs : (s.dev.contact i).state = .hover ∨ (s.dev.contact i).state = .away) (hp : ¬q.fields.pressure < (d.slot i).params.down)
    (ha : d.allows i (d.effectiveEnd i q) (d.activeZone i q) = true) (harmed : (d.slot i).captureArmed = true) :
    Becomes (.sample cell) s
      (if (d.slot i).params.settleCount.toNat = 0 then (d.captureBegun i q (d.slot i).params.settleCount.toNat).completeCapture i q
        else d.captureBegun i q (d.slot i).params.settleCount.toNat) := by
  subst hd hq
  rcases hs with hs | hs
  · have hrow := becomes_of_hover h hs
    rw [hoverSample_of_armed hp ha harmed] at hrow
    exact hrow
  · have hrow := becomes_of_away h hs
    rw [hoverSample_of_armed (d := setState i .hover (s.dev.received i l n)) hp ha harmed, captureBegun_setState] at hrow
    exact hrow

/-- A sample of the wait is judged with the presence timer restarted (R45, R56). -/
theorem becomes_of_capture (h : SampleFor s cell i l n f) (hs : (s.dev.contact i).state = .capture) :
    Becomes (.sample cell) s ((s.dev.received i l n).captureSample i ⟨f, s.dev.clock⟩) := by
  have hrow := becomes_of_sample h
  rw [takeSample_of_capture (by rw [reached_contact, hs])] at hrow
  exact hrow

end

/-- Settles O16: a wait of no samples ends at the contact begin, any other at the sample that counts it down to 0. -/
theorem captureMeasuresOffset : Obligations.CaptureMeasuresOffset := by
  intro s cell i l n f d q p captured h
  have hslot : d.slot i = _ := received_slot i l n s.dev
  have hstate : (d.contact i).state = (s.dev.contact i).state := received_state i l n s.dev
  have hcontact : d.contact i = _ := received_contact i l n s.dev
  have hparams : (d.slot i).params = p.params := by rw [hslot]
  have hcaptured : ∀ {e}, d.Captured i q e → captured e := fun {e} k => by
    have htarget : (d.slot i).targetX = p.targetX ∧ (d.slot i).targetY = p.targetY := by
      rw [hslot]
      exact ⟨rfl, rfl⟩
    rw [Captured, htarget.1, htarget.2] at k
    exact k
  refine ⟨fun hs hp ha harmed => ?_, fun hs => ⟨fun hp => ?_, fun hp => ⟨fun hw => ?_, fun hw hmore => ?_, fun hw hlast => ?_⟩⟩⟩
  · have hrow := becomes_of_armed (d := d) rfl rfl h hs (by rw [hparams]; exact hp) ha (by rw [hslot]; exact harmed)
    rw [hparams] at hrow
    refine ⟨fun hzero => ?_, fun hmore => ?_⟩
    · rw [hzero] at hrow
      exact ⟨_, hrow, hcaptured captureBegun_captured, captureBegun_filter⟩
    · have hcount : p.params.settleCount.toNat ≠ 0 := fun k => hmore (BitVec.eq_of_toNat_eq k)
      rw [if_neg hcount] at hrow
      exact hrow
  all_goals have hrow := becomes_of_capture h hs
  · rw [captureSample_below (by rw [hparams]; exact hp)] at hrow
    exact hrow
  all_goals rw [← hparams] at hp
  · rw [captureSample_ended hp (by rw [hcontact, hw])] at hrow
    exact hrow
  all_goals
    rw [captureSample_waiting hp (by rw [hcontact, hw])] at hrow
    have hsettle : (d.contact i).settle = (s.dev.contact i).settle := by rw [hcontact]
  · rw [hsettle] at hrow
    exact hrow.trans (congrArg _ (congrArg (State.mk · s.pending) (if_neg (by omega))))
  · rw [hsettle, hlast] at hrow
    exact ⟨_, hrow, hcaptured (captureCounted_captured (hstate.trans hs)), rfl⟩

end Sys2Proof.Machine
end

section
/-! A slot that leaves range, and a slot that is freed: the stroke that closes with it (R25, R34 to R36, R45, R57, R67, R93, R94, R99). -/

namespace Sys2Proof.Machine

namespace Device

section
variable {i : Slot} {reason : CloseReason} {time : Word32} {d : Device}

/-- A slot sent to AWAY behind the close of its stroke has left range. -/
theorem leftRange_of_closed : d.LeftRange i reason time ((d.closeStroke i reason time).goAway i) := by
  obtain ⟨hcontacts, hfilters, hpens, -⟩ := closeStroke_rest i reason time d
  have hcontact : ((d.closeStroke i reason time).goAway i).contact i = awayContact (d.contact i) := by
    rw [goAway, setContact_contact_same, closeStroke_contact]
    rfl
  refine ⟨?_, ?_, ?_, ?_, ?_, ?_, fun h => closeStroke_closed h reason time, fun h => ?_,
    ((closeStroke_within i reason time d).trans (goAway_within i _)).1⟩
  iterate 4 rw [hcontact]; rfl
  · exact congrArg (fun p : PenTable => p.slots[i]) hpens
  · exact congrArg (fun v : Vector FilterValue 12 => v[i]) hfilters
  · rw [closeStroke_of_closed h]
    exact ⟨rfl, rfl, rfl, rfl, rfl, rfl⟩

/-- A slot that is AWAY already has left range. -/
theorem SlotSound.leftRange_of_away (h : d.SlotSound i) (hs : (d.contact i).state = .away) : d.LeftRange i reason time d := by
  have hclosed : (d.context i).isOpen = false := SlotSound.closed h (hs ▸ nofun) (hs ▸ nofun)
  obtain ⟨-, -, -, hhold, hpresent⟩ := h
  rw [hs] at hhold hpresent
  refine ⟨hs, by simpa using hpresent, by simpa using hhold, rfl, rfl, rfl, fun k => ?_, fun _ => ⟨rfl, rfl, rfl, rfl, rfl, rfl⟩,
    fun _ _ => ⟨rfl, rfl, rfl, rfl, rfl⟩⟩
  rw [hclosed] at k
  cases k

/-- A slot without a stroke sent to AWAY has left range, whatever the reason. -/
theorem leftRange_of_goAway (h : (d.context i).isOpen = false) : d.LeftRange i reason time (d.goAway i) := by
  have hclosed : d.LeftRange i reason time ((d.closeStroke i reason time).goAway i) := leftRange_of_closed
  rwa [closeStroke_of_closed h] at hclosed

/-- A bound slot taken out of range, its stroke closing at the session clock (R36, R45). -/
theorem SlotSound.dropRange_leftRange (h : d.SlotSound i) (hs : (d.contact i).state ≠ .free) :
    d.LeftRange i reason d.clock (d.dropRange i reason) := by
  unfold Device.dropRange
  split
  · next hfree => exact absurd hfree hs
  · next haway => exact SlotSound.leftRange_of_away h haway
  · exact leftRange_of_closed
  · exact leftRange_of_closed
  · next _ _ hink hhold => exact leftRange_of_goAway (SlotSound.closed h hink hhold)

/-- A pen that leaves from HOLDING closes its stroke with LIFT at the lift time (R57, R93). -/
theorem takeLeave_leftRange_of_holding (hs : (d.contact i).state = .holding) (stamp : Word32) :
    d.LeftRange i .lift (d.contact i).liftTime (d.takeLeave i stamp) := by
  unfold takeLeave
  rw [hs]
  exact leftRange_of_closed

/-- A pen that leaves from any other state closes its stroke, if it has one, with LOST at the stamp (R57, R93). -/
theorem SlotSound.takeLeave_leftRange (h : d.SlotSound i) (hs : (d.contact i).state ≠ .free) (hh : (d.contact i).state ≠ .holding)
    (stamp : Word32) : d.LeftRange i .lost stamp (d.takeLeave i stamp) := by
  unfold Device.takeLeave
  split
  · next hfree => exact absurd hfree hs
  · next haway => exact SlotSound.leftRange_of_away h haway
  · exact leftRange_of_closed
  · next hhold => exact absurd hhold hh
  · next _ _ hink _ => exact leftRange_of_goAway (SlotSound.closed h hink hh)

/-- The slot where a pen is found is in range or AWAY. -/
theorem state_of_slotOfPen {t : Word24} (h : d.SlotSound i) (hp : d.slotOfPen t = some i) : (d.contact i).state ≠ .free := by
  have hbound := List.find?_some hp
  rw [Bool.and_eq_true, decide_eq_true_eq] at hbound
  intro k
  have hfree := h.1.mpr k
  rw [hbound.1] at hfree
  cases hfree

/-- A cell reaches its slot in agreement with itself. -/
theorem reached_slotsSound (h : d.SlotsSound) (i : Slot) (l : Lane) (n : BitVec 4) : (d.reached i l n).SlotsSound :=
  Acts.keeps (fun _ _ => Act.slotsSound) ((checkSequence_acts l n d).tail (.seen _ i l d.clock)) h

/-- Slot `i` has been freed between `d` and `e`, its stroke, if it had one, closed with FORCED at the session clock, and nothing else of the
pens but the slots has changed (R25, R34, R35). -/
structure Freed (i : Slot) (d e : Device) : Prop where
  contact : e.contact i = Contact.reset
  filter : e.filter i = ⟨0, 0⟩
  closed : (d.context i).isOpen = true → d.StrokeClosed i .forced d.clock e
  unchanged : (d.context i).isOpen = false →
    e.context i = d.context i ∧ e.summary i = d.summary i ∧ e.router = d.router ∧ e.framer = d.framer ∧ e.zones = d.zones ∧
      e.notices = d.notices
  receiver : e.receiver = d.receiver
  clock : e.clock = d.clock
  responder : e.responder = d.responder
  pens : e.pens = { d.pens with slots := e.pens.slots }
  others : d.OthersKept i e
  arbiter : e.arbiter = d.arbiter

theorem forceFree_freed : d.Freed i (d.forceFree i) := by
  obtain ⟨hreceiver, hclock, hresponder, harbiter, hpens, -⟩ := (closeStroke_within i .forced d.clock d).2
  refine ⟨freeSlot_contact_same i _, freeSlot_filter_same i _, fun h => closeStroke_closed h .forced d.clock, fun h => ?_, hreceiver,
    hclock, hresponder, ?_, forceFree_others i d, harbiter⟩
  · rw [forceFree, closeStroke_of_closed h]
    exact ⟨rfl, rfl, rfl, rfl, rfl, rfl⟩
  · rw [← hpens]
    rfl

/-- What is then written of the freed slot's record is the slot's own. -/
theorem Freed.setSlot {e : Device} (h : d.Freed i e) (p : PenSlot) : d.Freed i (e.setSlot i p) :=
  { contact := h.contact, filter := h.filter, closed := h.closed, unchanged := h.unchanged, receiver := h.receiver, clock := h.clock,
    responder := h.responder, pens := congrArg (fun t : PenTable => { t with slots := (e.setSlot i p).pens.slots }) h.pens,
    others := fun j hj => AgreeAt.trans (h.others j hj) (setSlot_others i p e j hj), arbiter := h.arbiter }

theorem forceFree_slot_same (i : Slot) (d : Device) :
    (d.forceFree i).slot i =
      { d.slot i with
        binding := .free, transducer := 0, lane := 0, offsetX := 0, offsetY := 0, captureArmed := false, targetX := 0, targetY := 0,
        lastSeen := 0 } := by
  have hslot : (d.closeStroke i .forced d.clock).slot i = d.slot i :=
    congrArg (fun p : PenTable => p.slots[i]) (closeStroke_rest i .forced d.clock d).2.2.1
  rw [forceFree, freeSlot_slot_same, hslot]

theorem disableSlot_of_bound (h : (d.slot i).binding = .bound) :
    d.disableSlot i = (d.forceFree i).setSlot i { (d.forceFree i).slot i with enabled := false } := by
  rw [disableSlot_cases, if_pos h]

theorem disableSlot_of_free (h : (d.slot i).binding = .free) : d.disableSlot i = d.setSlot i { d.slot i with enabled := false } := by
  rw [disableSlot_cases, if_neg (by rw [h]; exact nofun)]

/-- The reply to a command that leaves the arbiter alone is one more reply, at the tail of the queue (R156). -/
theorem answered_arbiter {e : Device} (h : e.arbiter = d.arbiter) {tag : Word16} {code : Byte} {result : Result} {payload : List Byte} :
    (e.answered (formReply tag code result e.status payload)).arbiter =
      { d.arbiter with
        replies :=
          d.arbiter.replies ++
            [formReply tag code result (e.answered (formReply tag code result e.status payload)).status payload] } := by
  rw [status_answered, ← h]
  rfl

end

end Device

open Device

/-- Settles O12: a LEAVE, a presence expiry and FORCE LEAVE each send their slot to AWAY behind the close of its stroke. -/
theorem leavingRangeClosesStroke : Obligations.LeavingRangeClosesStroke := by
  intro s cell i l n t tag hs
  refine ⟨fun h => ⟨_, becomes_of_leave h, ?_, (takeLeave_within i _ _).2⟩, fun h => ⟨_, rfl, ?_⟩,
    fun hr hb => ⟨_, answers_of_run rfl hr (onBound_of_bound hb), ?_, ?_⟩⟩
  · obtain ⟨-, -, hp⟩ := h
    have hin : ((s.dev.reached i l n).contact i).state ≠ .free := by
      rw [reached_contact]
      exact state_of_slotOfPen (hs i) hp
    rw [← reached_contact i l n]
    by_cases hh : ((s.dev.reached i l n).contact i).state = .holding
    · rw [if_pos hh, if_pos hh]
      exact takeLeave_leftRange_of_holding hh _
    · rw [if_neg hh, if_neg hh]
      exact SlotSound.takeLeave_leftRange (reached_slotsSound hs i l n i) hin hh _
  · rw [presenceExpires, if_pos h]
    exact ⟨SlotSound.dropRange_leftRange (hs i) (SlotSound.in_range (hs i) h).1, (dropRange_within i .lost s.dev).2⟩
  · have hin : (s.dev.contact i).state ≠ .free := fun k => by
      have hfree := (hs i).1.mpr k
      rw [hb] at hfree
      cases hfree
    exact SlotSound.dropRange_leftRange (hs i) hin
  · obtain ⟨-, -, hresponder, harbiter, hpens, -⟩ := (dropRange_within i .forced s.dev).2
    exact ⟨hpens, hresponder, answered_arbiter harbiter⟩

/-- Settles O39: a slot is freed behind the close of its stroke, and the disable then writes the switch. -/
theorem freedSlotClosesItsStroke : Obligations.FreedSlotClosesItsStroke := by
  intro s tag i p slot freed free hr
  have henable : ∀ on, runSetSlotEnable tag slot on s.dev =
      (if on then s.dev.setSlot i { p with enabled := true } else s.dev.disableSlot i).reply tag 0x29 .done [] := fun on => by
    rw [runSetSlotEnable, slotOf_ofNat]
  have hfreed : ∀ (code : Byte) (e : Device), s.dev.Freed i e → freed code (e.answered (formReply tag code .done e.status [])) :=
    fun code e h =>
      ⟨h.contact, h.filter, h.closed, h.unchanged, h.receiver, h.clock, h.responder, h.pens, h.others, answered_arbiter h.arbiter⟩
  have hforced : (s.dev.forceFree i).slot i = free := forceFree_slot_same i s.dev
  refine ⟨answers_of_run rfl hr (henable true), fun hb => ?_, fun hb => ?_⟩
  · have hdisabled := henable false
    rw [disableSlot_of_free hb] at hdisabled
    exact answers_of_run rfl hr hdisabled
  · have hdisabled := henable false
    rw [disableSlot_of_bound hb] at hdisabled
    refine ⟨⟨_, answers_of_run rfl hr hdisabled, ?_, hfreed 0x29 _ (forceFree_freed.setSlot _)⟩,
      ⟨_, answers_of_run rfl hr (onBound_of_bound hb), hforced, hfreed 0x2A _ forceFree_freed⟩⟩
    rw [hforced]
    exact setSlot_slot_same (s.dev.forceFree i) i _

end Sys2Proof.Machine
end

section
/-! The counters that an item of READ COUNTERS carries, and their clear (R162, R163, Figure 9-4). -/

namespace Sys2Proof.Machine

/-! ## A run of counters at 0 -/

/-- The list with the elements at positions `a` to `b - 1` at 0. -/
def zeroBetween {w : Nat} (a b : Nat) (l : List (BitVec w)) : List (BitVec w) :=
  l.take a ++ ((l.take b).drop a).map (fun _ => 0) ++ l.drop b

section
variable {w a b e : Nat} {l : List (BitVec w)}

/-- Its elements: the positions of the run at 0, the others as they were. -/
theorem zeroBetween_getElem? (h : a ≤ b) (i : Nat) :
    (zeroBetween a b l)[i]? = if a ≤ i ∧ i < b then l[i]?.map fun _ => 0 else l[i]? := by
  simp only [zeroBetween, List.getElem?_append, List.getElem?_take, List.getElem?_map, List.getElem?_drop, List.length_append,
    List.length_take, List.length_map, List.length_drop]
  grind

theorem zeroBetween_self : zeroBetween a a l = l := by
  refine List.ext_getElem? fun i => ?_
  rw [zeroBetween_getElem? (Nat.le_refl a), if_neg (by omega)]

/-- Two runs that meet are one. -/
theorem zeroBetween_zeroBetween (h1 : a ≤ b) (h2 : b ≤ e) : zeroBetween b e (zeroBetween a b l) = zeroBetween a e l := by
  refine List.ext_getElem? fun i => ?_
  rw [zeroBetween_getElem? h2, zeroBetween_getElem? h1, zeroBetween_getElem? (h1.trans h2)]
  by_cases hlow : a ≤ i ∧ i < b
  · rw [if_pos hlow, if_neg (by omega), if_pos (by omega)]
  · rw [if_neg hlow]
    exact if_congr (by omega) rfl rfl

/-- Items of four elements do not meet: the item at 0 leaves every other as it was. -/
theorem item_zeroBetween {m n : Nat} (h : n ≠ m) : ((zeroBetween (4 * n) (4 * n + 4) l).drop (4 * m)).take 4 = (l.drop (4 * m)).take 4 := by
  refine List.ext_getElem? fun i => ?_
  rw [List.getElem?_take, List.getElem?_take, List.getElem?_drop, List.getElem?_drop, zeroBetween_getElem? (by omega)]
  split
  · rw [if_neg (by omega)]
  · rfl

theorem zeroBetween_head (l' : List (BitVec w)) : zeroBetween 0 l.length (l ++ l') = l.map (fun _ => 0) ++ l' := by
  simp [zeroBetween]

theorem zeroBetween_tail (l' : List (BitVec w)) : zeroBetween l.length (l.length + l'.length) (l ++ l') = l ++ l'.map fun _ => 0 := by
  simp [zeroBetween, List.take_append, List.drop_append]

end

namespace Device

variable {d : Device} {g : BitVec 3} {n : Nat}

/-! ## What the clear of an item writes -/

theorem clearItem_receiver (h : g ≠ 0) : (d.clearItem g n).receiver = d.receiver := by
  unfold clearItem
  split
  · next hg => exact absurd (BitVec.eq_of_toNat_eq hg) h
  all_goals rfl

theorem clearItem_pens (h : g ≠ 1) : (d.clearItem g n).pens = d.pens := by
  unfold clearItem
  split
  · rfl
  · next hg => exact absurd (BitVec.eq_of_toNat_eq hg) h
  all_goals rfl

theorem clearItem_zones (h : g ≠ 2) : (d.clearItem g n).zones = d.zones := by
  unfold clearItem
  split
  case h_3 hg => exact absurd (BitVec.eq_of_toNat_eq hg) h
  all_goals rfl

theorem clearItem_router (h : g ≠ 3) : (d.clearItem g n).router = d.router := by
  unfold clearItem
  split
  case h_4 hg => exact absurd (BitVec.eq_of_toNat_eq hg) h
  all_goals rfl

theorem clearItem_framer (h : g ≠ 4) : (d.clearItem g n).framer = d.framer := by
  unfold clearItem
  split
  case h_5 hg => exact absurd (BitVec.eq_of_toNat_eq hg) h
  all_goals rfl

/-- The counters of another group stay. -/
theorem clearItem_otherGroups {h : BitVec 3} (hne : h ≠ g) : (d.clearItem g n).groupCounters h = d.groupCounters h := by
  have hg : ∀ {k : Nat} {v : BitVec 3}, h.toNat = k → v.toNat = k → g ≠ v := fun hk hv e =>
    hne (BitVec.eq_of_toNat_eq (by rw [hk, e, hv]))
  unfold groupCounters
  split
  · next hh => rw [clearItem_receiver (hg hh rfl)]
  · next hh => rw [clearItem_pens (hg hh rfl)]
  · next hh => rw [clearItem_zones (hg hh rfl)]
  · next hh => rw [clearItem_router (hg hh rfl)]
  · next hh => rw [clearItem_framer (hg hh rfl)]
  · rfl

/-- A clear of group 0 keeps what the lanes expect. -/
theorem clearItem_expected (l : Lane) : ((d.clearItem g n).lane l).expected = (d.lane l).expected := by
  by_cases hg : g = 0
  · subst hg
    have hlanes : (d.clearItem 0 n).receiver =
        if n = 0 then d.receiver.clearBad else if n = 1 then d.receiver.clearGaps else d.receiver := rfl
    rw [lane, hlanes]
    split
    · simp [CellReceiver.clearBad, lane]
    · split
      · simp [CellReceiver.clearGaps, lane]
      · rfl
  · rw [lane, clearItem_receiver hg]
    rfl

theorem clearItem_moved : d.CountersMoved (d.clearItem g n) := by
  refine ⟨clearItem_expected, ?_⟩
  unfold clearItem
  split
  · dsimp only
    split
    · rfl
    · split <;> rfl
  all_goals rfl

theorem clearItem_active : (d.clearItem g n).zones.active = d.zones.active := by
  have h := congrArg (fun e : Device => e.zones.active) (clearItem_moved (d := d) (g := g) (n := n)).2
  exact h

/-- Each bank keeps all but the counters of the item of group 2. -/
theorem clearItem_blocked (name : BankName) (z : ZoneNo) :
    ((d.clearItem g n).zones.bank name).blocked[z] =
      if g = 2 ∧ 4 * n ≤ z.val ∧ z.val < 4 * n + 4 then 0 else (d.zones.bank name).blocked[z] := by
  by_cases hg : g = 2
  · subst hg
    have hbank : (d.clearItem 2 n).zones.bank name = (d.zones.bank name).clearItem n := by cases name <;> rfl
    rw [hbank, Bank.clearItem, Fin.getElem_fin, Vector.getElem_mapFinIdx]
    exact if_congr ⟨fun k => ⟨rfl, by omega, by omega⟩, fun ⟨_, k1, k2⟩ => by omega⟩ rfl rfl
  · rw [clearItem_zones hg, if_neg fun k => hg k.1]

/-! ## The counters of the item -/

theorem clearItem_zoneCounters : (d.clearItem 2 n).groupCounters 2 = zeroBetween (4 * n) (4 * n + 4) (d.groupCounters 2) := by
  have hactive : (d.clearItem 2 n).zones.activeBank = (d.clearItem 2 n).zones.bank d.zones.active := rfl
  have hcounters : ∀ e : Device, e.groupCounters 2 = e.zones.activeBank.blocked.toList := fun _ => rfl
  refine List.ext_getElem? fun i => ?_
  rw [zeroBetween_getElem? (by omega), hcounters, hcounters, hactive, Vector.getElem?_toList, Vector.getElem?_toList]
  by_cases hi : i < 17
  · have hblocked := clearItem_blocked (d := d) (g := 2) (n := n) d.zones.active ⟨i, hi⟩
    rw [Fin.getElem_fin, Fin.getElem_fin] at hblocked
    rw [Vector.getElem?_eq_getElem hi, Vector.getElem?_eq_getElem hi, hblocked]
    by_cases hitem : 4 * n ≤ i ∧ i < 4 * n + 4
    · rw [if_pos ⟨rfl, hitem⟩, if_pos hitem]
      rfl
    · rw [if_neg fun k => hitem k.2, if_neg hitem]
      rfl
  · rw [Vector.getElem?_eq_none (by omega), Vector.getElem?_eq_none (by omega)]
    exact (ite_self none).symm

/-- The items of the lanes' group: the bad cells, then the gaps. -/
theorem clearItem_laneCounters (h : n < 2) : (d.clearItem 0 n).groupCounters 0 = zeroBetween (4 * n) (4 * n + 4) (d.groupCounters 0) := by
  have hbad : (d.receiver.lanes.toList.map (·.badCells)).length = 4 := by simp
  have hgaps : (d.receiver.lanes.toList.map (·.gaps)).length = 4 := by simp
  have hn : n = 0 ∨ n = 1 := by omega
  rcases hn with rfl | rfl
  · have hzero := zeroBetween_head (l := d.receiver.lanes.toList.map (·.badCells)) (d.receiver.lanes.toList.map (·.gaps))
    rw [hbad] at hzero
    refine Eq.trans ?_ hzero.symm
    simp [groupCounters, clearItem, CellReceiver.clearBad, Vector.toList_map, Function.comp_def]
  · have hzero := zeroBetween_tail (l := d.receiver.lanes.toList.map (·.badCells)) (d.receiver.lanes.toList.map (·.gaps))
    rw [hbad, hgaps] at hzero
    refine Eq.trans ?_ hzero.symm
    simp [groupCounters, clearItem, CellReceiver.clearGaps, Vector.toList_map, Function.comp_def]

/-- An item's clear leaves its own group's counters at 0 where the item stands, and no others. -/
theorem clearItem_groupCounters (h : n < groupItems g) :
    (d.clearItem g n).groupCounters g = zeroBetween (4 * n) (4 * n + 4) (d.groupCounters g) := by
  have hg : ∀ {k : Nat} {v : BitVec 3}, g.toNat = k → v.toNat = k → g = v := fun hk hv => BitVec.eq_of_toNat_eq (hk.trans hv.symm)
  unfold groupItems at h
  split at h
  · next h0 =>
    cases hg h0 (v := 0) rfl
    exact clearItem_laneCounters h
  · next h1 =>
    cases hg h1 (v := 1) rfl
    obtain rfl : n = 0 := by omega
    rfl
  · next h2 =>
    cases hg h2 (v := 2) rfl
    exact clearItem_zoneCounters
  · next h3 =>
    cases hg h3 (v := 3) rfl
    obtain rfl : n = 0 := by omega
    rfl
  · next h4 =>
    cases hg h4 (v := 4) rfl
    obtain rfl : n = 0 := by omega
    rfl
  · omega

end Device

end Sys2Proof.Machine
end

section
/-! A range read run item by item (R154, R157, R163). -/

namespace Sys2Proof.Machine

namespace Device

variable {d m e : Device} {g : BitVec 3} {a b k : Nat}

/-! ## Runs of cleared counters -/

/-- A device whose counters of group `g` at positions `a` to `b - 1` are at 0 beside those of `d`. -/
theorem cleared_iff : d.Cleared g a b e ↔
    e.groupCounters g = zeroBetween a b (d.groupCounters g) ∧ (∀ h : BitVec 3, h ≠ g → e.groupCounters h = d.groupCounters h) ∧
      (∀ z : ZoneNo, (e.zones.bank e.zones.other).blocked[z] =
        if g = 2 ∧ a ≤ z.val ∧ z.val < b then 0 else (d.zones.bank d.zones.other).blocked[z]) ∧
      d.CountersMoved e := Iff.rfl

theorem CountersMoved.trans (h1 : d.CountersMoved m) (h2 : m.CountersMoved e) : d.CountersMoved e := by
  refine ⟨fun l => (h2.1 l).trans (h1.1 l), h2.2.trans ?_⟩
  rw [h1.2]

theorem cleared_refl : d.Cleared g a a d :=
  cleared_iff.mpr ⟨zeroBetween_self.symm, fun _ _ => rfl, fun _ => (if_neg (by omega)).symm, fun _ => rfl, rfl⟩

theorem Cleared.trans (h1 : d.Cleared g a b m) (h2 : m.Cleared g b k e) (hab : a ≤ b) (hbk : b ≤ k) : d.Cleared g a k e := by
  obtain ⟨hg1, hothers1, hzones1, hmoved1⟩ := cleared_iff.mp h1
  obtain ⟨hg2, hothers2, hzones2, hmoved2⟩ := cleared_iff.mp h2
  refine cleared_iff.mpr ⟨?_, fun h hne => (hothers2 h hne).trans (hothers1 h hne), fun z => ?_, hmoved1.trans hmoved2⟩
  · rw [hg2, hg1, zeroBetween_zeroBetween hab hbk]
  · rw [hzones2, hzones1]
    by_cases hlow : g = 2 ∧ a ≤ z.val ∧ z.val < b
    · obtain ⟨hgroup, h1, h2⟩ := hlow
      rw [if_neg fun q => absurd q.2.1 (by omega), if_pos ⟨hgroup, h1, h2⟩, if_pos ⟨hgroup, h1, by omega⟩]
    · rw [if_neg hlow]
      refine if_congr ⟨fun ⟨hgroup, h1, h2⟩ => ⟨hgroup, by omega, h2⟩, fun ⟨hgroup, h1, h2⟩ => ⟨hgroup, ?_, h2⟩⟩ rfl rfl
      exact Nat.le_of_not_lt fun h => hlow ⟨hgroup, h1, h⟩

theorem clearItem_cleared {n : Nat} (h : n < groupItems g) : d.Cleared g (4 * n) (4 * n + 4) (d.clearItem g n) := by
  refine cleared_iff.mpr ⟨clearItem_groupCounters h, fun _ hne => clearItem_otherGroups hne, fun z => ?_, clearItem_moved⟩
  have hother : (d.clearItem g n).zones.other = d.zones.other := by rw [ZoneTable.other, clearItem_active, ZoneTable.other]
  rw [hother, clearItem_blocked]

/-! ## What an item's clear leaves to the read -/

section
variable {t : ReadTarget} {n : Nat}

/-- A target whose items up to `last` exist, where a clear goes with them. -/
abbrev HoldsItems (t : ReadTarget) (last : Nat) : Prop := ∀ g : BitVec 3, t = .counters g true → last < groupItems g

theorem clearRead_of_plain (h : ∀ g : BitVec 3, t ≠ .counters g true) : d.clearRead t n = d := by
  unfold clearRead
  split
  · next g => exact absurd rfl (h g)
  · rfl

theorem clearItem_apart : (d.clearItem g n).responder = d.responder ∧ (d.clearItem g n).status = d.status ∧
    (d.clearItem g n).zones.apply = d.zones.apply := by
  unfold clearItem
  split <;> exact ⟨rfl, rfl, rfl⟩

/-- An item's clear leaves the responder, the status and the exchange alone. -/
theorem clearRead_apart : (d.clearRead t n).responder = d.responder ∧ (d.clearRead t n).status = d.status ∧
    (d.clearRead t n).zones.apply = d.zones.apply := by
  unfold clearRead
  split
  · exact clearItem_apart
  · exact ⟨rfl, rfl, rfl⟩

/-- An item's clear leaves every other item as it stands. -/
theorem clearRead_itemPayload (h : HoldsItems t n) {j : Nat} (hj : n ≠ j) : (d.clearRead t n).itemPayload t j = d.itemPayload t j := by
  unfold clearRead
  split
  · next g =>
    show (d.clearItem g n).countersPayload g j = d.countersPayload g j
    rw [countersPayload, clearItem_groupCounters (h g rfl), item_zeroBetween hj, clearItem_active]
    rfl
  · rfl

/-! ## One item -/

/-- The device with these replies at the tail of its queue and this read in hand. -/
def formed (replies : List ReplyCell) (r : Option RangeRead) (d : Device) : Device :=
  { d with
    arbiter := { d.arbiter with replies := d.arbiter.replies ++ replies }
    responder := { d.responder with reading := r } }

theorem clearRead_formed (l : List ReplyCell) (r : Option RangeRead) : (d.formed l r).clearRead t n = (d.clearRead t n).formed l r := by
  unfold clearRead clearItem
  split
  · split <;> rfl
  · rfl

theorem formed_formed (l l' : List ReplyCell) (r r' : Option RangeRead) : (d.formed l r).formed l' r' = d.formed (l ++ l') r' := by
  rw [formed, formed, formed]
  simp only [List.append_assoc]

theorem formed_nil : d.formed [] d.responder.reading = d := by
  rw [formed, List.append_nil]

/-- The reply that carries an item (R156, R157). -/
def itemReply (tag : Word16) (t : ReadTarget) (d : Device) (n : Nat) : ReplyCell := formReply tag t.code .done d.status (d.itemPayload t n)

/-- An item's reply, the read moved to the next item, and the clear. -/
theorem readItem_eq {r : RangeRead} (h : ¬(r.target = .zone true ∧ d.zones.apply = .retiring)) :
    d.readItem r =
      (d.formed [itemReply r.tag r.target d r.next] (if r.next < r.last then some { r with next := r.next + 1 } else none)).clearRead
        r.target r.next := by
  have hreply : d.reply r.tag r.target.code .done (d.itemPayload r.target r.next) =
      d.formed [itemReply r.tag r.target d r.next] d.responder.reading := rfl
  rw [readItem, if_neg h, hreply, clearRead_formed, clearRead_formed]
  rfl

/-- The clears of `k` items from item `n` on. -/
def clearItems (t : ReadTarget) (n k : Nat) (d : Device) : Device := (List.range' n k).foldl (fun e j => e.clearRead t j) d

theorem clearItems_succ : d.clearItems t n (k + 1) = (d.clearRead t n).clearItems t (n + 1) k := by
  rw [clearItems, List.range'_succ, List.foldl_cons]
  rfl

theorem clearItems_of_plain (h : ∀ g : BitVec 3, t ≠ .counters g true) : d.clearItems t n k = d := by
  induction k generalizing n d with
  | zero => rfl
  | succ k ih => rw [clearItems_succ, clearRead_of_plain h, ih]

theorem clearItems_apart : (d.clearItems t n k).responder = d.responder ∧ (d.clearItems t n k).arbiter = d.arbiter := by
  induction k generalizing n d with
  | zero => exact ⟨rfl, rfl⟩
  | succ k ih =>
    rw [clearItems_succ]
    exact ⟨ih.1.trans clearRead_apart.1, ih.2.trans (clearRead_arbiter t n d)⟩

theorem clearItems_cleared (h : n + k ≤ groupItems g) : d.Cleared g (4 * n) (4 * (n + k)) (d.clearItems (.counters g true) n k) := by
  induction k generalizing n d with
  | zero => exact cleared_refl
  | succ k ih =>
    have hrest := ih (n := n + 1) (d := d.clearItem g n) (by omega)
    rw [show 4 * (n + 1 + k) = 4 * (n + (k + 1)) by omega] at hrest
    rw [clearItems_succ]
    exact Cleared.trans (clearItem_cleared (by omega)) hrest (by omega) (by omega)

/-! ## The items that find room -/

/-- The replies of `k` items from item `n` on. -/
def itemReplies (tag : Word16) (t : ReadTarget) (n k : Nat) (d : Device) : List ReplyCell :=
  (List.range k).map fun j => itemReply tag t d (n + j)

theorem itemReplies_succ (tag : Word16) : itemReplies tag t n (k + 1) d = itemReply tag t d n :: itemReplies tag t (n + 1) k d := by
  rw [itemReplies, List.range_succ_eq_map, List.map_cons, List.map_map, itemReplies]
  refine congrArg (_ :: ·) (List.map_congr_left fun j _ => ?_)
  rw [Function.comp_apply, Nat.succ_eq_add_one, show n + (j + 1) = n + 1 + j by omega]

/-- The read in hand of the items from `n` to `last`. -/
def toRead (tag : Word16) (t : ReadTarget) (last n : Nat) : Option RangeRead := if n ≤ last then some ⟨tag, t, n, last⟩ else none

/-- The items behind one are formed as they stood before its own clear. -/
theorem itemReplies_after {tag : Word16} (h : HoldsItems t n) (l : List ReplyCell) (r : Option RangeRead) :
    itemReplies tag t (n + 1) k ((d.formed l r).clearRead t n) = itemReplies tag t (n + 1) k d := by
  refine List.map_congr_left fun j _ => ?_
  rw [itemReply, clearRead_apart.2.1, clearRead_itemPayload h (by omega)]
  rfl

theorem readBurst_of_room {r : RangeRead} {c : Nat} (hr : d.responder.reading = some r) (hl : d.arbiter.replies.length < 4) :
    readBurst (c + 1) d = readBurst c (d.readItem r) := by
  simp only [readBurst, hr, (replyRoom_iff d).mpr hl, if_true]

theorem readBurst_of_full {c : Nat} (hl : ¬d.arbiter.replies.length < 4) : readBurst c d = d := by
  cases c with
  | zero => rfl
  | succ c =>
    unfold readBurst
    split
    · rfl
    · exact if_neg fun k => hl ((replyRoom_iff d).mp k)

/-- A burst forms the replies of the items for which the queue has room, each with the item as it stood before the read (R157). -/
theorem readBurst_eq {tag : Word16} {last : Nat} (h : HoldsItems t last) {c : Nat} (hb : ¬(t = .zone true ∧ d.zones.apply = .retiring))
    (hc : n + c = last + 1) (hr : d.responder.reading = toRead tag t last n) :
    readBurst c d =
      (d.formed (itemReplies tag t n (min c (4 - d.arbiter.replies.length)) d)
        (toRead tag t last (n + min c (4 - d.arbiter.replies.length)))).clearItems t n (min c (4 - d.arbiter.replies.length)) := by
  induction c generalizing n d with
  | zero =>
    rw [Nat.zero_min, Nat.add_zero, ← hr]
    exact formed_nil.symm
  | succ c ih =>
    by_cases hl : d.arbiter.replies.length < 4
    · have hread : d.responder.reading = some ⟨tag, t, n, last⟩ := hr.trans (if_pos (by omega))
      have hitem : HoldsItems t n := fun g hg => Nat.lt_of_le_of_lt (by omega) (h g hg)
      have hfirst : d.readItem ⟨tag, t, n, last⟩ = (d.formed [itemReply tag t d n] (toRead tag t last (n + 1))).clearRead t n :=
        readItem_eq hb
      have hlength : (d.readItem ⟨tag, t, n, last⟩).arbiter.replies.length = d.arbiter.replies.length + 1 := by
        rw [hfirst, clearRead_arbiter]
        exact List.length_append
      have hk : min (c + 1) (4 - d.arbiter.replies.length) = min c (4 - (d.arbiter.replies.length + 1)) + 1 := by omega
      have hrest := ih (n := n + 1) (d := d.readItem ⟨tag, t, n, last⟩) (by rw [hfirst, clearRead_apart.2.2]; exact hb) (by omega)
        (by rw [hfirst, clearRead_apart.1]; rfl)
      rw [hlength, hfirst, itemReplies_after hitem, ← clearRead_formed, formed_formed] at hrest
      rw [readBurst_of_room hread hl, hk, clearItems_succ, itemReplies_succ, hfirst, hrest, Nat.add_right_comm n 1]
      rfl
    · rw [readBurst_of_full hl, show 4 - d.arbiter.replies.length = 0 by omega, Nat.min_zero, Nat.add_zero, ← hr]
      exact formed_nil.symm

/-- A read taken forms its items while there is room, and waits in READING for the rest (R157). -/
theorem startRead_eq {tag : Word16} {last : Nat} (h : HoldsItems t last) (hb : ¬(t = .zone true ∧ d.zones.apply = .retiring))
    (hn : n ≤ last) :
    d.startRead ⟨tag, t, n, last⟩ =
      (d.formed (itemReplies tag t n (min (last + 1 - n) (4 - d.arbiter.replies.length)) d)
        (toRead tag t last (n + min (last + 1 - n) (4 - d.arbiter.replies.length)))).clearItems t n
          (min (last + 1 - n) (4 - d.arbiter.replies.length)) :=
  readBurst_eq (d := d.setReading (some ⟨tag, t, n, last⟩)) h hb (show n + (last + 1 - n) = last + 1 by omega) (if_pos hn).symm

theorem startRead_took {tag : Word16} {last : Nat} (h : HoldsItems t last) (hb : ¬(t = .zone true ∧ d.zones.apply = .retiring))
    (hn : n ≤ last) : d.TookRead tag t n last (d.startRead ⟨tag, t, n, last⟩) := by
  rw [startRead_eq h hb hn]
  unfold TookRead
  rw [clearItems_apart.1, clearItems_apart.2]
  exact ⟨rfl, rfl, rfl⟩

/-- A read that clears nothing changes the reply queue and the responder alone. -/
theorem startRead_tookPlain {tag : Word16} {last : Nat} (ht : ∀ g : BitVec 3, t ≠ .counters g true)
    (hb : ¬(t = .zone true ∧ d.zones.apply = .retiring)) (hn : n ≤ last) :
    d.TookPlainRead tag t n last (d.startRead ⟨tag, t, n, last⟩) := by
  have h : HoldsItems t last := fun g hg => absurd hg (ht g)
  refine ⟨startRead_took h hb hn, ?_⟩
  rw [startRead_eq h hb hn, clearItems_of_plain ht]
  rfl

end

end Device

end Sys2Proof.Machine
end

section
/-! The commands that start a range read, and the events of its further items (R28, R31, R78, R101, R154, R157, R162, R163). -/

namespace Sys2Proof.Machine

open Device

section
variable {d : Device} {tag : Word16} {first last part : Byte}

/-! ## The commands -/

theorem rangeWithin_of_le {limit : Nat} (h : first.toNat ≤ last.toNat) (hl : last.toNat ≤ limit) : rangeWithin first last limit = true :=
  rangeWithin_eq_true fun k => k.elim (fun k => Nat.not_le.mpr (BitVec.lt_def.mp k) h) (Nat.not_lt.mpr hl)

theorem tableRead_of_within {t : ReadTarget} {limit : Nat} (h : first.toNat ≤ last.toNat) (hl : last.toNat ≤ limit) :
    d.tableRead tag t first last limit = d.startRead ⟨tag, t, first.toNat, last.toNat⟩ := by
  rw [tableRead, rangeWithin_of_le h hl]
  rfl

theorem runReadSlot_of_within (h : first.toNat ≤ last.toNat) (hl : last.toNat ≤ 11) (hp : part ≤ 2) :
    runReadSlot tag first last part d = d.startRead ⟨tag, .slot part, first.toNat, last.toNat⟩ :=
  (if_neg (Nat.not_lt.mpr hp)).trans (tableRead_of_within h hl)

theorem runReadStroke_of_within (h : first.toNat ≤ last.toNat) (hl : last.toNat ≤ 11) (hp : part ≤ 1) :
    runReadStroke tag first last part d = d.startRead ⟨tag, .stroke part, first.toNat, last.toNat⟩ :=
  (if_neg (Nat.not_lt.mpr hp)).trans (tableRead_of_within h hl)

/-- A read of the active bank, and of the staging bank in IDLE (R78). -/
theorem runReadZone_active (h : first.toNat ≤ last.toNat) (hl : last.toNat ≤ 16) :
    runReadZone tag 0 first last d = d.startRead ⟨tag, .zone false, first.toNat, last.toNat⟩ := by
  rw [runReadZone, rangeWithin_of_le h hl]
  rfl

theorem runReadZone_staging (h : first.toNat ≤ last.toNat) (hl : last.toNat ≤ 16) (hi : d.zones.apply = .idle) :
    runReadZone tag 1 first last d = d.startRead ⟨tag, .zone true, first.toNat, last.toNat⟩ := by
  rw [runReadZone, rangeWithin_of_le h hl]
  exact if_neg fun (k : _ ∧ d.zones.apply = .retiring) => absurd (hi.symm.trans k.2) nofun

/-- The number of items of a group that READ COUNTERS takes (R162). -/
theorem groupItems_eq : ∀ {g : BitVec 3}, g ≤ 4 → groupItems g = if g = 0 then 2 else if g = 2 then 5 else 1 := by decide

theorem groupItems_pos : ∀ {g : BitVec 3}, g ≤ 4 → 0 < groupItems g := by decide

theorem runReadCounters_of_group {g : BitVec 3} {clear : Bool} (h : g ≤ 4) :
    runReadCounters tag g clear d = d.startRead ⟨tag, .counters g clear, 0, groupItems g - 1⟩ := if_neg (Nat.not_lt.mpr h)

/-! ## READ COUNTERS -/

theorem holdsItems_counters {g : BitVec 3} {clear : Bool} (h : g ≤ 4) : HoldsItems (.counters g clear) (groupItems g - 1) := fun k hk => by
  cases hk
  exact Nat.sub_one_lt (Nat.ne_of_gt (groupItems_pos h))

/-- A clearing read clears the counters of the items that it forms, and no others (R163). -/
theorem startRead_cleared {g : BitVec 3} (h : g ≤ 4) :
    d.Cleared g 0 (4 * min (groupItems g) (4 - d.arbiter.replies.length)) (d.startRead ⟨tag, .counters g true, 0, groupItems g - 1⟩) := by
  have hitems : groupItems g - 1 + 1 - 0 = groupItems g := by have := groupItems_pos h; omega
  rw [startRead_eq (holdsItems_counters h) nofun (Nat.zero_le _), hitems]
  have hcleared := clearItems_cleared (g := g) (n := 0) (k := min (groupItems g) (4 - d.arbiter.replies.length))
    (d := d.formed (itemReplies tag (.counters g true) 0 (min (groupItems g) (4 - d.arbiter.replies.length)) d)
      (toRead tag (.counters g true) (groupItems g - 1) (0 + min (groupItems g) (4 - d.arbiter.replies.length)))) (by omega)
  rw [Nat.zero_add] at hcleared ⊢
  exact hcleared

end

/-! ## The next item -/

section
variable {s : State} {r : RangeRead}

/-- A further item is formed, and the taking test made behind it (R154, R157). -/
theorem leads_of_nextItem (hr : s.dev.responder.reading = some r) (hl : s.dev.arbiter.replies.length < 4) :
    Becomes .rangeReadNextItem s (s.dev.readItem r).takingTest := by
  have hitem : s.dev.nextItem = s.dev.readItem r := by
    simp only [nextItem, hr, (replyRoom_iff s.dev).mpr hl, if_true]
  show s.onDevice (fun d => if d.responder.reading.isSome then d.nextItem.takingTest else d) = _
  rw [State.onDevice_eq, hr, hitem]
  rfl

end

end Sys2Proof.Machine
end

section
/-! The payload of each item, byte by byte (Figure 11-6, with the numbers of Figures 9-4 and 11-1). -/

namespace Sys2Proof.Machine

open Device

/-! ## Bytes made of fields -/

/-- A number of 0 or `2 ^ k`: one bit of a byte. -/
def bitNo (x : Bool) (k : Nat) : Nat := if x then 2 ^ k else 0

theorem toNat_append_add {m k : Nat} (x : BitVec m) (y : BitVec k) : (x ++ y).toNat = y.toNat + 2 ^ k * x.toNat := by
  rw [BitVec.toNat_append, ← Nat.shiftLeft_add_eq_or_of_lt y.isLt, Nat.shiftLeft_eq]
  ring

theorem toNat_ofBool_eq (x : Bool) : (BitVec.ofBool x).toNat = x.toNat := by cases x <;> rfl

theorem bitNo_eq (x : Bool) (k : Nat) : bitNo x k = 2 ^ k * x.toNat := by cases x <;> simp [bitNo]

theorem byte_eq_ofNat {x : Byte} {n : Nat} (h : x.toNat = n) : x = BitVec.ofNat 8 n := by
  rw [← h, BitVec.ofNat_toNat, BitVec.setWidth_eq]

theorem byteBool_eq (x : Bool) : byteBool x = BitVec.ofNat 8 (bitNo x 0) := by cases x <;> rfl

theorem attributes_eq (r : Role) (g : Group) (c : BitVec 4) :
    attributes r g c = BitVec.ofNat 8 ((roleBits r).toNat + 4 * g.val + 16 * c.toNat) := by
  have hg : (BitVec.ofNat 2 g.val).toNat = g.val := ofNat_toNat_of_lt g.isLt
  refine byte_eq_ofNat ?_
  show (c ++ BitVec.ofNat 2 g.val ++ roleBits r : Byte).toNat = _
  rw [toNat_append_add, toNat_append_add, hg]
  omega

theorem steeringByte_eq (x : SteeringSet) :
    steeringByte x =
      BitVec.ofNat 8 ((steeringBits x.group0).toNat + 4 * (steeringBits x.group1).toNat + 16 * (steeringBits x.group2).toNat +
        64 * (steeringBits x.group3).toNat) := by
  refine byte_eq_ofNat ?_
  rw [steeringByte, toNat_append_add, toNat_append_add, toNat_append_add]
  omega

theorem ruleByte_eq (x : ZoneRules) : ruleByte x = BitVec.ofNat 8 (bitNo x.eraseAllowed 0 + bitNo x.guarded 1) := by
  refine byte_eq_ofNat ?_
  rw [ruleByte, toNat_append_add, toNat_append_add, toNat_ofBool_eq, toNat_ofBool_eq, bitNo_eq, bitNo_eq, BitVec.toNat_zero]
  omega

theorem lowByte_eq {w : Nat} (x : BitVec w) : lowByte x = BitVec.ofNat 8 x.toNat := by
  rw [lowByte, ← BitVec.ofNat_toNat]

theorem contextBits_eq (x : StrokeContext) :
    contextBits x =
      BitVec.ofNat 8 (bitNo x.isOpen 0 + bitNo (x.penEnd = .eraser) 1 + bitNo x.laneGap 2 + bitNo x.continued 3) := by
  have hend : (BitVec.ofNat 1 (penEndNo x.penEnd)).toNat = (decide (x.penEnd = .eraser)).toNat := by cases x.penEnd <;> rfl
  refine byte_eq_ofNat ?_
  simp only [contextBits, toNat_append_add, toNat_ofBool_eq, bitNo_eq, BitVec.toNat_zero, hend]
  omega

theorem summaryFlagsByte_eq (x : SummaryFlags) :
    summaryFlagsByte x =
      BitVec.ofNat 8 (bitNo x.laneGap 0 + bitNo x.overlayGap 1 + bitNo x.shareTruncated 2 + bitNo x.coalesced 3 + bitNo x.continued 4 +
        bitNo x.overlaySuppressed 5) := by
  refine byte_eq_ofNat ?_
  simp only [summaryFlagsByte, toNat_append_add, toNat_ofBool_eq, bitNo_eq, BitVec.toNat_zero]
  omega

/-- A 12-bit field alone in its two bytes. -/
theorem zeros_append (x : BitVec 12) : (0#4 ++ x : Word16) = x.setWidth 16 := by
  refine BitVec.eq_of_toNat_eq ?_
  rw [toNat_append_add, BitVec.toNat_setWidth, BitVec.toNat_zero]
  omega

theorem profileBlock_eq (p : Profile) :
    (profileBlock p).toList =
      bytes16 (p.down.setWidth 16) ++ bytes16 (p.up.setWidth 16) ++
        [BitVec.ofNat 8 (p.liftHold.toNat + 64 * p.curve.toNat),
          BitVec.ofNat 8 (p.settleCount.toNat + 8 * p.smoothing.toNat + bitNo p.buttonErase 7), p.minStep, p.eraserWidth] := by
  have hhold : (p.curve ++ p.liftHold : Byte) = BitVec.ofNat 8 (p.liftHold.toNat + 64 * p.curve.toNat) :=
    byte_eq_ofNat (toNat_append_add _ _)
  have hsettle : (BitVec.ofBool p.buttonErase ++ p.smoothing ++ p.settleCount : Byte) =
      BitVec.ofNat 8 (p.settleCount.toNat + 8 * p.smoothing.toNat + bitNo p.buttonErase 7) := by
    refine byte_eq_ofNat ?_
    rw [toNat_append_add, toNat_append_add, toNat_ofBool_eq, bitNo_eq]
    omega
  rw [← zeros_append, ← zeros_append, ← hhold, ← hsettle]
  rfl

/-! ## Tables -/

theorem getD_getElem? {α : Type} {k : Nat} (v : Vector α k) (i : Fin k) (x : α) : (v[i.val]?).getD x = v[i] := by simp

theorem toList_eq_map {α : Type} {k : Nat} (v : Vector α k) : v.toList = (List.finRange k).map fun i => v[i] := by
  refine List.ext_getElem (by simp) fun i h1 h2 => ?_
  simp

theorem bindingNo_eq (x : Binding) : byteNat (bindingNo x) = BitVec.ofNat 8 (bitNo (x = .bound) 0) := by cases x <;> rfl

theorem bankNo_eq (x : BankName) : byteNat (bankNo x) = BitVec.ofNat 8 (bitNo (x = .b) 0) := by cases x <;> rfl

theorem penEndNo_eq (x : PenEnd) : byteNat (penEndNo x) = BitVec.ofNat 8 (bitNo (x = .eraser) 0) := by cases x <;> rfl

/-! ## Items -/

namespace Device

variable (d : Device)

theorem admissionPayload_eq (j : Fin 8) :
    d.itemPayload .admission j.val =
      [BitVec.ofNat 8 j.val, BitVec.ofNat 8 (bitNo d.pens.admission[j].enable 0)] ++ bytes24 d.pens.admission[j].matchValue ++
          bytes24 d.pens.admission[j].mask ++
        [BitVec.ofNat 8
            ((roleBits d.pens.admission[j].role).toNat + 4 * d.pens.admission[j].group.val + 16 * d.pens.admission[j].colour.toNat),
          BitVec.ofNat 8 d.pens.admission[j].profile.toNat] := by
  rw [← attributes_eq, ← lowByte_eq, ← byteBool_eq]
  simp only [itemPayload, admissionPayload, getD_getElem?]
  rfl

theorem profilePayload_eq (j : Fin 4) :
    d.itemPayload .profile j.val = BitVec.ofNat 8 j.val :: (profileBlock d.pens.profiles[j]).toList := by
  simp only [itemPayload, profilePayload, getD_getElem?]
  rfl

theorem curvePayload_eq (j : Fin 4) :
    d.itemPayload .curve j.val = BitVec.ofNat 8 j.val :: (List.finRange 9).map fun y => (d.pens.curves[j])[y] := by
  rw [← toList_eq_map]
  simp only [itemPayload, curvePayload, getD_getElem?]
  rfl

/-- The binding part of a slot's item. -/
theorem slotPayload_binding (i : Slot) :
    d.itemPayload (.slot 0) i.val =
      [BitVec.ofNat 8 i.val, 0, BitVec.ofNat 8 (bitNo (d.slot i).enabled 0), BitVec.ofNat 8 (bitNo ((d.slot i).binding = .bound) 0)] ++
          bytes24 (d.slot i).transducer ++
        [BitVec.ofNat 8 (d.slot i).lane.val,
          BitVec.ofNat 8 ((roleBits (d.slot i).role).toNat + 4 * (d.slot i).group.val + 16 * (d.slot i).colour.toNat),
          BitVec.ofNat 8 (contactNo (d.contact i).state), BitVec.ofNat 8 (bitNo (d.slot i).captureArmed 0), (d.contact i).shortContacts] ++
      bytes32 (d.slot i).lastSeen := by
  rw [← bindingNo_eq, ← attributes_eq, ← byteBool_eq, ← byteBool_eq]
  simp only [itemPayload, slotPayload, getD_getElem?]
  rfl

/-- The parameter part of a slot's item. -/
theorem slotPayload_params (i : Slot) :
    d.itemPayload (.slot 1) i.val = [BitVec.ofNat 8 i.val, 1] ++ (profileBlock (d.slot i).params).toList := by
  simp only [itemPayload, slotPayload, getD_getElem?]
  rfl

/-- The offset part of a slot's item. -/
theorem slotPayload_offset (i : Slot) :
    d.itemPayload (.slot 2) i.val =
      [BitVec.ofNat 8 i.val, 2] ++ bytes16 (BitVec.ofInt 16 (d.slot i).offsetX) ++ bytes16 (BitVec.ofInt 16 (d.slot i).offsetY) ++
        [BitVec.ofNat 8 (bitNo (d.slot i).captureArmed 0)] ++ bytes16 (d.slot i).targetX ++ bytes16 (d.slot i).targetY := by
  rw [← byteBool_eq]
  simp only [itemPayload, slotPayload, getD_getElem?]
  simp [slot, byteNat]

/-- The rules of a zone, as an item carries them. -/
def ruleBytesOf (x : ZoneRules) : List Byte :=
  [BitVec.ofNat 8 ((steeringBits x.steering.group0).toNat + 4 * (steeringBits x.steering.group1).toNat +
      16 * (steeringBits x.steering.group2).toNat + 64 * (steeringBits x.steering.group3).toNat),
    BitVec.ofNat 8 (bitNo x.eraseAllowed 0 + bitNo x.guarded 1), x.widthCap]

theorem ruleBytesOf_eq (x : ZoneRules) : ruleBytesOf x = [steeringByte x.steering, ruleByte x, x.widthCap] := by
  rw [steeringByte_eq, ruleByte_eq]
  rfl

/-- A rectangle's item. -/
theorem zonePayload_rect (on : Bool) (z : Fin 16) :
    d.itemPayload (.zone on) z.val =
      [BitVec.ofNat 8 z.val, BitVec.ofNat 8 (bitNo (d.zoneReadBank on = .b) 0),
          BitVec.ofNat 8 (bitNo (d.zones.bank (d.zoneReadBank on)).zones[z].enable 0)] ++
            bytes16 (d.zones.bank (d.zoneReadBank on)).zones[z].xMin ++ bytes16 (d.zones.bank (d.zoneReadBank on)).zones[z].xMax ++
          bytes16 (d.zones.bank (d.zoneReadBank on)).zones[z].yMin ++ bytes16 (d.zones.bank (d.zoneReadBank on)).zones[z].yMax ++
        ruleBytesOf (d.zones.bank (d.zoneReadBank on)).zones[z].rules ++
      bytes16 (d.zones.bank (d.zoneReadBank on)).blocked[z.castSucc] := by
  have hblocked : ((d.zones.bank (d.zoneReadBank on)).blocked[z.val]?).getD 0 = (d.zones.bank (d.zoneReadBank on)).blocked[z.castSucc] :=
    getD_getElem? _ z.castSucc 0
  rw [← bankNo_eq, ← byteBool_eq, ruleBytesOf_eq]
  simp only [itemPayload, zonePayload, getD_getElem?, hblocked, z.isLt, if_true]
  rfl

/-- The open area's item. -/
theorem zonePayload_openArea (on : Bool) :
    d.itemPayload (.zone on) 16 =
      [16, BitVec.ofNat 8 (bitNo (d.zoneReadBank on = .b) 0), 0, 0, 0, 0, 0, 0, 0, 0, 0] ++
          ruleBytesOf (d.zones.bank (d.zoneReadBank on)).openArea ++
        bytes16 (d.zones.bank (d.zoneReadBank on)).blocked[openAreaNo] := by
  have hblocked : ((d.zones.bank (d.zoneReadBank on)).blocked[16]?).getD 0 = (d.zones.bank (d.zoneReadBank on)).blocked[openAreaNo] :=
    getD_getElem? _ openAreaNo 0
  rw [← bankNo_eq, ruleBytesOf_eq, ← hblocked]
  rfl

/-- The context part of a stroke's item. -/
theorem strokePayload_context (i : Slot) :
    d.itemPayload (.stroke 0) i.val =
      [BitVec.ofNat 8 i.val, 0,
              BitVec.ofNat 8
                (bitNo (d.context i).isOpen 0 + bitNo ((d.context i).penEnd = .eraser) 1 + bitNo (d.context i).laneGap 2 +
                  bitNo (d.context i).continued 3)] ++
            bytes16 (d.context i).id ++
          [BitVec.ofNat 8 ((roleBits (d.context i).role).toNat + 4 * (d.context i).group.val + 16 * (d.context i).colour.toNat),
            BitVec.ofNat 8 (d.context i).zone.val, (d.context i).generation, BitVec.ofNat 8 (steeringBits (d.context i).steering).toNat,
            (d.context i).widthCap] ++
          bytes32 (d.context i).openTime ++ bytes16 (d.context i).sequence ++ bytes16 (d.context i).count ++ bytes16 (d.context i).lastX ++
        bytes16 (d.context i).lastY ++
      [(d.context i).lastWidth] := by
  rw [← contextBits_eq, ← attributes_eq, ← lowByte_eq]
  simp only [itemPayload, strokePayload, getD_getElem?]
  rfl

/-- The summary part of a stroke's item. -/
theorem strokePayload_summary (i : Slot) :
    d.itemPayload (.stroke 1) i.val =
      [BitVec.ofNat 8 i.val, 1] ++ bytes16 (d.summary i).id ++ [BitVec.ofNat 8 (reasonNo (d.summary i).reason)] ++
            bytes16 (d.summary i).count ++
          [BitVec.ofNat 8 (bitNo ((d.summary i).penEnd = .eraser) 0), BitVec.ofNat 8 (d.summary i).zone.val, (d.summary i).generation] ++
          bytes32 (d.summary i).openTime ++ bytes32 (d.summary i).closeTime ++
        [BitVec.ofNat 8
          (bitNo (d.summary i).flags.laneGap 0 + bitNo (d.summary i).flags.overlayGap 1 + bitNo (d.summary i).flags.shareTruncated 2 +
            bitNo (d.summary i).flags.coalesced 3 + bitNo (d.summary i).flags.continued 4 +
            bitNo (d.summary i).flags.overlaySuppressed 5)] := by
  rw [← summaryFlagsByte_eq, ← penEndNo_eq]
  simp only [itemPayload, strokePayload, getD_getElem?]
  rfl

/-- Up to four counters, and zeros in the place of those that are missing. -/
theorem counterBytes_eq {l : List Word16} (h : l.length ≤ 4) :
    ((l ++ List.replicate 4 0).take 4).flatMap bytes16 = l.flatMap bytes16 ++ List.replicate (8 - 2 * l.length) 0 := by
  have hzeros : ∀ k, (List.replicate k (0 : Word16)).flatMap bytes16 = List.replicate (2 * k) 0 := fun k => by
    induction k with
    | zero => rfl
    | succ k ih =>
      rw [List.replicate_succ, List.flatMap_cons, ih]
      rfl
  rw [List.take_append, List.take_of_length_le h, List.take_replicate, List.flatMap_append, hzeros]
  congr 2
  omega

theorem countersPayload_eq (g : BitVec 3) (on : Bool) (n : Nat) :
    d.itemPayload (.counters g on) n =
      [BitVec.ofNat 8 g.toNat, BitVec.ofNat 8 n, BitVec.ofNat 8 (4 * n),
              BitVec.ofNat 8 (((d.groupCounters g).drop (4 * n)).take 4).length] ++
            (((d.groupCounters g).drop (4 * n)).take 4).flatMap bytes16 ++
          List.replicate (8 - 2 * (((d.groupCounters g).drop (4 * n)).take 4).length) 0 ++
        [if g = 2 then BitVec.ofNat 8 (bitNo (d.zones.active = .b) 0) else 0] := by
  have hlength : (((d.groupCounters g).drop (4 * n)).take 4).length ≤ 4 := List.length_take_le _ _
  rw [← bankNo_eq, ← lowByte_eq, List.append_assoc [_, _, _, _], ← counterBytes_eq hlength]
  rfl

/-! ## The groups -/

theorem groupCounters_lanes :
    d.groupCounters 0 = (List.finRange 4).map (fun l => (d.lane l).badCells) ++ (List.finRange 4).map (fun l => (d.lane l).gaps) := by
  show d.receiver.lanes.toList.map _ ++ d.receiver.lanes.toList.map _ = _
  rw [toList_eq_map, List.map_map, List.map_map]
  rfl

theorem groupCounters_zones : d.groupCounters 2 = (List.finRange 17).map fun y => d.zones.activeBank.blocked[y] := toList_eq_map _

end Device

end Sys2Proof.Machine
end

section
/-! Range reads as a whole (R28, R31, R78, R101, R154, R157, R162, R163, R181). -/

namespace Sys2Proof.Machine

open Device

section
variable {s : State} {tag : Word16} {first last part : Byte} {g : BitVec 3} {clear : Bool} {r : RangeRead}

/-- A command that starts a read leads to where the read's first items leave the device. -/
theorem leads_of_startRead {i : Instr} {c : Command} {P : Device → Prop} (h : encodeCommand i = some c) (hr : s.dev.Ready)
    (hrun : runCommand (executed i) s.dev = s.dev.startRead r) (hP : P (s.dev.startRead r)) : Leads i s P := by
  have hdone := becomes_of_ready h hr
  rw [hrun] at hdone
  exact ⟨_, hdone, hP⟩

/-- READ COUNTERS takes its items, and clears where asked what they carry (R162, R163). -/
theorem leads_of_readCounters (hr : s.dev.Ready) (hg : g ≤ 4) :
    Leads (.readCounters tag g clear) s fun e =>
      s.dev.TookRead tag (.counters g clear) 0 (groupItems g - 1) e ∧
        (clear = false → e = { s.dev with arbiter := e.arbiter, responder := e.responder }) ∧
        (clear = true → s.dev.Cleared g 0 (4 * min (groupItems g) (4 - s.dev.arbiter.replies.length)) e) := by
  refine leads_of_startRead rfl hr (runReadCounters_of_group hg)
    ⟨startRead_took (holdsItems_counters hg) nofun (Nat.zero_le _), fun hc => ?_, fun hc => ?_⟩
  · subst hc
    have hplain : ∀ k : BitVec 3, ReadTarget.counters g false ≠ .counters k true := fun k hk => by
      injection hk with _ hk
      cases hk
    exact (startRead_tookPlain hplain (by rintro ⟨k, -⟩; cases k) (Nat.zero_le _)).2
  · subst hc
    exact startRead_cleared hg

/-- A read of the staging bank that meets RETIRING ends with BUSY (R78). -/
theorem readItem_busy (h : r.target = .zone true ∧ s.dev.zones.apply = .retiring) :
    s.dev.readItem r =
      { s.dev.answered (formReply r.tag 0x33 .busy s.dev.status []) with responder := { s.dev.responder with reading := none } } := if_pos h

/-- An item without a clear is one more reply, and the read moved on. -/
theorem readItem_plain (h : ¬(r.target = .zone true ∧ s.dev.zones.apply = .retiring)) (ht : ∀ g : BitVec 3, r.target ≠ .counters g true) :
    s.dev.readItem r =
      s.dev.formed [itemReply r.tag r.target s.dev r.next] (if r.next < r.last then some { r with next := r.next + 1 } else none) := by
  rw [readItem_eq h, clearRead_of_plain ht]

/-- An item of a clearing read: its reply, the read moved on, and its counters cleared. -/
theorem readItem_clearing (ht : r.target = .counters g true) (hn : r.next < groupItems g) :
    (s.dev.readItem r).arbiter =
        { s.dev.arbiter with
          replies :=
            s.dev.arbiter.replies ++ [formReply r.tag 0x11 .done s.dev.status (s.dev.itemPayload (.counters g true) r.next)] } ∧
      (s.dev.readItem r).responder =
        { s.dev.responder with reading := if r.next < r.last then some { r with next := r.next + 1 } else none } ∧
      s.dev.Cleared g (4 * r.next) (4 * r.next + 4) (s.dev.readItem r) := by
  have hb : ¬(r.target = .zone true ∧ s.dev.zones.apply = .retiring) := fun k => by
    rw [ht] at k
    cases k.1
  rw [readItem_eq hb, clearRead_arbiter, clearRead_apart.1, ht]
  exact ⟨rfl, rfl, clearItem_cleared (d := s.dev.formed _ _) hn⟩

/-- A group has four counters an item at most. -/
theorem groupCounters_length_le (g : BitVec 3) (d : Device) : (d.groupCounters g).length ≤ 4 * groupItems g := by
  unfold groupCounters groupItems
  split <;> simp

end

/-- Settles O45: a burst of items with the payloads of their tables, and each further item an event of its own. -/
theorem rangeReadsAnswerItemByItem : Obligations.RangeReadsAnswerItemByItem := by
  intro s tag first last part g clear on r j c i z n d a b items carried b2 b3 b4 no bit flag attr block st ruleBytes e p k m
    name bank area counters
  refine ⟨fun hr hab => ?tables, fun hr hg => ?counters, fun hread hl => ?nextItem, admissionPayload_eq d j, ?profile, curvePayload_eq d c,
    slotPayload_binding d i, ?params, slotPayload_offset d i, zonePayload_rect d on z, zonePayload_openArea d on,
    strokePayload_context d i, strokePayload_summary d i, countersPayload_eq d g on n, groupCounters_lanes d, rfl,
    groupCounters_zones d, rfl, rfl, rfl, rfl, rfl, rfl, rfl⟩
  case tables =>
    refine ⟨fun hb => leads_of_startRead rfl hr (tableRead_of_within hab hb) (startRead_tookPlain nofun nofun hab),
      fun hb => leads_of_startRead rfl hr (tableRead_of_within hab hb) (startRead_tookPlain nofun nofun hab),
      fun hb => leads_of_startRead rfl hr (tableRead_of_within hab hb) (startRead_tookPlain nofun nofun hab),
      fun hb hp => leads_of_startRead rfl hr (runReadSlot_of_within hab hb hp) (startRead_tookPlain nofun nofun hab),
      fun hb hp => leads_of_startRead rfl hr (runReadStroke_of_within hab hb hp) (startRead_tookPlain nofun nofun hab),
      fun hb => leads_of_startRead rfl hr (runReadZone_active hab hb) (startRead_tookPlain nofun nofun hab),
      fun hb hi => leads_of_startRead rfl hr (runReadZone_staging hab hb hi) (startRead_tookPlain nofun ?_ hab)⟩
    exact fun q => nomatch hi.symm.trans q.2
  case counters =>
    have hitems : groupItems g = items := groupItems_eq hg
    have hread := leads_of_readCounters (tag := tag) (clear := clear) hr hg
    rw [hitems] at hread
    exact hread
  case nextItem =>
    have hnext := leads_of_nextItem hread hl
    refine ⟨fun hb => ?_, fun hb ht => ?_, fun ht hn => ?_⟩
    · rw [readItem_busy hb] at hnext
      exact ⟨_, hnext, takingTest_takes _⟩
    · rw [readItem_plain hb ht] at hnext
      exact ⟨_, hnext, takingTest_takes _⟩
    · have hitem : r.next < groupItems g := by
        have hlength := groupCounters_length_le g d
        omega
      obtain ⟨harbiter, hresponder, hcleared⟩ := readItem_clearing ht hitem
      exact ⟨_, hnext, _, harbiter, hresponder, hcleared, takingTest_takes _⟩
  case profile =>
    rw [profilePayload_eq, profileBlock_eq]
    rfl
  case params =>
    rw [slotPayload_params, profileBlock_eq]
    rfl

end Sys2Proof.Machine
end

section
/-! SUPPORT. What the strokes, the zones and the router do not read: the contact fields and the filter values. A close and a SEG commute with
a write to them, and a slot whose unit alone has moved opens its stroke, or is refused, as it would have been before. -/

namespace Sys2Proof.Machine

namespace Device

/-- The device with other contact fields and other filter values. -/
def withUnits (c : Vector Contact 12) (v : Vector FilterValue 12) (d : Device) : Device := { d with contacts := c, filters := v }

section
variable (c : Vector Contact 12) (v : Vector FilterValue 12) (d : Device)

theorem withUnits_alike : d.Alike (d.withUnits c v) := ⟨rfl, rfl, rfl, rfl, rfl⟩

theorem ite_withUnits {p : Prop} [Decidable p] {x y x' y' : Device} (hx : x' = x.withUnits c v) (hy : y' = y.withUnits c v) :
    (if p then x' else y') = (if p then x else y).withUnits c v := by
  rw [hx, hy]
  exact (apply_ite (withUnits c v) p x y).symm

/-- What the router does to devices alike, it does beside these fields. -/
theorem withUnits_of_routed {c : Vector Contact 12} {v : Vector FilterValue 12} {d x y : Device} (hx : d.Routed x)
    (hy : (d.withUnits c v).Routed y) (h : x.Alike y) : y = x.withUnits c v := by
  obtain ⟨hrouter, hframer, hnotices, -⟩ := h
  calc y = { d.withUnits c v with router := y.router, framer := y.framer, notices := y.notices } := hy
    _ = { d.withUnits c v with router := x.router, framer := x.framer, notices := x.notices } := by rw [hrouter, hframer, hnotices]
    _ = x.withUnits c v := (congrArg (withUnits c v) hx).symm

theorem routeSeg_withUnits (i : Slot) (g : SegRecord) : (d.withUnits c v).routeSeg i g = (d.routeSeg i g).withUnits c v :=
  withUnits_of_routed (routeSeg_routed i g d) (routeSeg_routed i g _) ((withUnits_alike c v d).routeSeg i g)

theorem routeClose_withUnits (id n : Word16) (reason : CloseReason) (gap : Bool) (time : Word16) :
    (d.withUnits c v).routeClose id n reason gap time = (d.routeClose id n reason gap time).withUnits c v := by
  have hsame : d.SameOutput (d.withUnits c v) := ⟨rfl, rfl, rfl, rfl⟩
  obtain ⟨hrouter, hframer, hclock, hgeneration⟩ := hsame.routeClose id n reason gap time
  refine withUnits_of_routed (routeClose_routed _ _ _ _ _ d) (routeClose_routed _ _ _ _ _ _)
    ⟨hrouter.symm, hframer.symm, ?_, hclock.symm, hgeneration.symm⟩
  rw [routeClose_notices, routeClose_notices]
  rfl

theorem releaseStroke_withUnits (g : Byte) : (d.withUnits c v).releaseStroke g = (d.releaseStroke g).withUnits c v :=
  ite_withUnits c v rfl rfl

theorem closeStroke_withUnits (i : Slot) (reason : CloseReason) (time : Word32) :
    (d.withUnits c v).closeStroke i reason time = (d.closeStroke i reason time).withUnits c v := by
  cases h : (d.context i).isOpen with
  | false => rw [closeStroke_of_closed h, closeStroke_of_closed (d := d.withUnits c v) h]
  | true =>
    let m := summaryOf (d.context i) reason time (d.router.delivery (d.context i).id)
    have hroute := routeClose_withUnits c v d (d.context i).id (d.context i).count reason (d.context i).laneGap (time.setWidth 16)
    have hrelease : ∀ e : Device, ((e.withUnits c v).setSummary i m).releaseStroke (d.context i).generation =
        ((e.setSummary i m).releaseStroke (d.context i).generation).withUnits c v := fun e => releaseStroke_withUnits c v (e.setSummary i m) _
    have hclosed : ∀ e : Device, (e.context i).isOpen = true → e.closeStroke i reason time = _ := fun e k => if_pos k
    rw [hclosed d h, hclosed (d.withUnits c v) h]
    exact congrArg (setContext i StrokeContext.closed) ((congrArg (fun e : Device =>
      (e.setSummary i m).releaseStroke (d.context i).generation) hroute).trans (hrelease _))

theorem emitSeg_withUnits (i : Slot) (p : Point) (w : Byte) (time : Word32) :
    (d.withUnits c v).emitSeg i p w time = (d.emitSeg i p w time).withUnits c v := routeSeg_withUnits c v (d.setContext i _) i _

end

/-- A SEG moves no contact field, no filter value, no summary, and not the allocator. -/
theorem emitSeg_rest (i : Slot) (p : Point) (w : Byte) (time : Word32) (d : Device) :
    (d.emitSeg i p w time).contacts = d.contacts ∧ (d.emitSeg i p w time).filters = d.filters ∧
      (d.emitSeg i p w time).strokes.summaries = d.strokes.summaries ∧
      (d.emitSeg i p w time).strokes.candidate = d.strokes.candidate ∧
      d.emitSeg i p w time =
        { d with
          strokes := (d.emitSeg i p w time).strokes, router := (d.emitSeg i p w time).router,
          framer := (d.emitSeg i p w time).framer, notices := (d.emitSeg i p w time).notices } := by
  have h : Routed _ (d.emitSeg i p w time) := routeSeg_routed i _ _
  rw [h]
  exact ⟨rfl, rfl, rfl, rfl, rfl⟩

section
variable (i j : Slot) (reason : CloseReason) (time : Word32) (d : Device)

theorem closeStroke_setContact (c : Contact) :
    (d.setContact j c).closeStroke i reason time = (d.closeStroke i reason time).setContact j c := by
  obtain ⟨hcontacts, hfilters, -⟩ := closeStroke_rest i reason time d
  have hset : ∀ e : Device, e.setContact j c = e.withUnits (e.contacts.set j c) e.filters := fun _ => rfl
  rw [hset d, closeStroke_withUnits, hset (d.closeStroke i reason time), hcontacts, hfilters]

theorem closeStroke_setFilter (v : FilterValue) :
    (d.setFilter j v).closeStroke i reason time = (d.closeStroke i reason time).setFilter j v := by
  obtain ⟨hcontacts, hfilters, -⟩ := closeStroke_rest i reason time d
  have hset : ∀ e : Device, e.setFilter j v = e.withUnits e.contacts (e.filters.set j v) := fun _ => rfl
  rw [hset d, closeStroke_withUnits, hset (d.closeStroke i reason time), hcontacts, hfilters]

theorem emitSeg_setFilter (p : Point) (w : Byte) (v : FilterValue) :
    (d.setFilter j v).emitSeg i p w time = (d.emitSeg i p w time).setFilter j v := by
  obtain ⟨hcontacts, hfilters, -⟩ := emitSeg_rest i p w time d
  have hset : ∀ e : Device, e.setFilter j v = e.withUnits e.contacts (e.filters.set j v) := fun _ => rfl
  rw [hset d, emitSeg_withUnits, hset (d.emitSeg i p w time), hcontacts, hfilters]

end

/-! ## A slot whose unit alone has moved -/

/-- Between `d` and `x` nothing has changed but slot `i`'s contact fields and filter value. -/
def UnitMoved (i : Slot) (d x : Device) : Prop := (∃ c v, x = d.withUnits c v) ∧ d.OthersKept i x

section
variable {i : Slot} {d x : Device}

theorem UnitMoved.refl : d.UnitMoved i d := ⟨⟨d.contacts, d.filters, rfl⟩, fun j _ => AgreeAt.refl j d⟩

theorem UnitMoved.setContact (h : d.UnitMoved i x) (k : Contact) : d.UnitMoved i (x.setContact i k) := by
  obtain ⟨⟨c, v, rfl⟩, hothers⟩ := h
  exact ⟨⟨c.set i k, v, rfl⟩, fun j hj => AgreeAt.trans (hothers j hj) ((setContact_within i k _).1 j hj)⟩

theorem UnitMoved.setFilter (h : d.UnitMoved i x) (k : FilterValue) : d.UnitMoved i (x.setFilter i k) := by
  obtain ⟨⟨c, v, rfl⟩, hothers⟩ := h
  exact ⟨⟨c, v.set i k, rfl⟩, fun j hj => AgreeAt.trans (hothers j hj) ((setFilter_within i k _).1 j hj)⟩

theorem UnitMoved.within (h : d.UnitMoved i x) : d.Within i x := by
  obtain ⟨⟨c, v, rfl⟩, hothers⟩ := h
  exact ⟨hothers, SurroundingsKept.refl d⟩

/-- An open does not read what the contact unit has moved: its point is the sample's. -/
theorem UnitMoved.strokeOpened {e : Device} {w : PenEnd} {z : ZoneNo} {u : Point} {q : Sample} {b : Bool} (h : d.UnitMoved i x)
    (k : x.StrokeOpened i w z u q b e) : d.StrokeOpened i w z u q b e := by
  obtain ⟨⟨c, v, rfl⟩, -⟩ := h
  obtain ⟨hcontext, hcandidate, hzones, hrouter, hframer, hnotices⟩ := k
  have hroute := fun o st => (withUnits_alike c v d).routeOpen o st
  exact ⟨hcontext, hcandidate, hzones, hrouter.trans (hroute _ _).1.symm, hframer.trans (hroute _ _).2.1.symm,
    hnotices.trans (hroute _ _).2.2.1.symm⟩

/-- The stroke that a sample opens at its slot's unit point, the slot INKING (R49, R85). -/
theorem UnitMoved.openFrom (h : d.UnitMoved i x) {u : Point} (hu : x.unitPoint i = u) (q : Sample) (z : ZoneNo) :
    d.StrokeOpened i (d.effectiveEnd i q) z u q false (x.openFrom i q z) ∧
      (x.openFrom i q z).contact i = { x.contact i with state := .inking } ∧ (x.openFrom i q z).filter i = x.filter i ∧
      (x.openFrom i q z).summary i = d.summary i ∧ d.Within i (x.openFrom i q z) := by
  have hopened : d.StrokeOpened i (x.effectiveEnd i q) z u q false (x.openFrom i q z) := h.strokeOpened (openStroke_opened hu _ z false)
  obtain ⟨-, hfilters, -, hsummaries, -⟩ := openStroke_rest i ⟨z, x.effectiveEnd i q, q.fields.pressure, q.stamp, false⟩ x
  have hwithin := h.within.trans (openFrom_within i q z x)
  refine ⟨?_, ?_, congrArg (fun v : Vector FilterValue 12 => v[i]) hfilters,
    (congrArg (fun v : Vector Summary 12 => v[i]) hsummaries).trans ?_, hwithin⟩
  · obtain ⟨⟨c, v, rfl⟩, -⟩ := h
    exact hopened
  · rw [Device.openFrom, setState, setContact_contact_same, openStroke_contact]
  · obtain ⟨⟨c, v, rfl⟩, -⟩ := h
    rfl

/-- A refusal, the accounting of its zone, and nothing else (R44, R65). -/
theorem UnitMoved.blockSlot (h : d.UnitMoved i x) (z : ZoneNo) :
    d.RefusalCounted z (x.blockSlot i z) ∧ (x.blockSlot i z).filter i = x.filter i ∧
      x.blockSlot i z =
        { d with
          contacts := (x.blockSlot i z).contacts, filters := (x.blockSlot i z).filters, notices := (x.blockSlot i z).notices,
          zones := (x.blockSlot i z).zones } ∧
      d.Within i (x.blockSlot i z) := by
  have hwithin := h.within.trans (blockSlot_within i z x)
  obtain ⟨⟨c, v, rfl⟩, -⟩ := h
  cases hg : (d.zones.activeBank.rulesOf z).guarded with
  | true =>
    rw [blockSlot_of_guarded (d := d.withUnits c v) hg] at hwithin ⊢
    refine ⟨?_, rfl, rfl, hwithin⟩
    rw [RefusalCounted, if_pos hg]
    exact ⟨rfl, rfl⟩
  | false =>
    rw [blockSlot_of_unguarded (d := d.withUnits c v) hg] at hwithin ⊢
    refine ⟨?_, rfl, rfl, hwithin⟩
    rw [RefusalCounted, if_neg (by rw [hg]; exact Bool.false_ne_true)]
    exact ⟨rfl, rfl⟩

end

end Device

open Device

/-! ## A sample's row -/

section
variable {s : State} {cell : Cell} {i : Slot} {l : Lane} {n : BitVec 4} {f : SampleFields}

theorem received_filter (i : Slot) (l : Lane) (n : BitVec 4) (d : Device) (j : Slot) : (d.received i l n).filter j = d.filter j :=
  congrArg (fun v : Vector FilterValue 12 => v[j]) (checkSequence_filters l n d)

theorem received_params (i : Slot) (l : Lane) (n : BitVec 4) (d : Device) :
    ((d.received i l n).slot i).params = (d.slot i).params := by rw [received_slot]

/-- A sample of a slot in range is taken there with the presence timer restarted (R45, R50 to R55). -/
theorem becomes_of_inRange (h : SampleFor s cell i l n f) :
    ((s.dev.contact i).state = .settling →
        Becomes (.sample cell) s ((s.dev.received i l n).settlingSample i ⟨f, s.dev.clock⟩)) ∧
      ((s.dev.contact i).state = .inking → Becomes (.sample cell) s ((s.dev.received i l n).inkingSample i ⟨f, s.dev.clock⟩)) ∧
      ((s.dev.contact i).state = .holding → Becomes (.sample cell) s ((s.dev.received i l n).holdingSample i ⟨f, s.dev.clock⟩)) ∧
      ((s.dev.contact i).state = .blocked → Becomes (.sample cell) s ((s.dev.received i l n).blockedSample i ⟨f, s.dev.clock⟩)) := by
  have hrow := becomes_of_sample h
  unfold takeSample at hrow
  rw [reached_contact] at hrow
  refine ⟨fun hs => ?_, fun hs => ?_, fun hs => ?_, fun hs => ?_⟩
  all_goals
    rw [hs] at hrow
    exact hrow

/-- A contact in HOVER or AWAY begins with the slot's state at HOVER, which the contact begin does not read (R47 to R49). -/
theorem becomes_of_contact (h : SampleFor s cell i l n f) (hs : (s.dev.contact i).state = .hover ∨ (s.dev.contact i).state = .away)
    (hp : ¬f.pressure < (s.dev.slot i).params.down) :
    Becomes (.sample cell) s (((s.dev.received i l n).setState i .hover).contactBegin i ⟨f, s.dev.clock⟩) := by
  have hdown : ¬f.pressure < ((s.dev.received i l n).slot i).params.down := by
    rw [received_slot]
    exact hp
  have hbegins : ((s.dev.received i l n).setState i .hover).hoverSample i ⟨f, s.dev.clock⟩ =
      ((s.dev.received i l n).setState i .hover).contactBegin i ⟨f, s.dev.clock⟩ := if_neg hdown
  rw [← hbegins]
  rcases hs with hs | hs
  · have hkept : (s.dev.received i l n).setState i .hover = s.dev.received i l n := by
      rw [setState, ← hs, ← received_state i l n s.dev, setContact_self]
    rw [hkept]
    exact becomes_of_hover h hs
  · exact becomes_of_away h hs

end

end Sys2Proof.Machine
end

section
/-! A contact begun, settled, refused and judged again (R42, R44, R47, R49, R50, R55, R63, R65, R85 to R87). -/

namespace Sys2Proof.Machine

namespace Device

section
variable {i : Slot} {q : Sample} {d e : Device} {c : ContactState}

/-! ## The contact begin -/

/-- A zone that refuses the contact blocks it, whether or not a capture is armed (R44, R49). -/
theorem contactBegin_of_not_allowed (ha : d.allows i (d.effectiveEnd i q) (d.activeZone i q) = false) :
    d.ContactBlocked i q (d.contactBegin i q) := by
  have hrefused : (!(d.seedFilter i q).allows i ((d.seedFilter i q).effectiveEnd i q) ((d.seedFilter i q).activeZone i q)) = true :=
    (congrArg not ha).trans rfl
  have hblocked : d.contactBegin i q = (d.seedFilter i q).blockSlot i (d.activeZone i q) := if_pos hrefused
  rw [hblocked]
  exact blockSlot_seeded i q d

/-- A contact state that the contact begin overwrites is not seen behind it. -/
theorem StrokeBegun.of_setState (h : (d.setState i c).StrokeBegun i q e) : d.StrokeBegun i q e := by
  have hmoved : d.UnitMoved i (d.setState i c) := UnitMoved.refl.setContact _
  obtain ⟨hopened, hcontact, hfilter, hsummary, hdelivered, hothers, hkept⟩ := h
  have hwithin := hmoved.within.trans ⟨hothers, hkept⟩
  rw [setState, setContact_contact_same] at hcontact
  exact ⟨hmoved.strokeOpened hopened, hcontact, hfilter, hsummary, hdelivered, hwithin.1, hwithin.2⟩

theorem ContactBlocked.of_setState (h : (d.setState i c).ContactBlocked i q e) : d.ContactBlocked i q e := by
  obtain ⟨hcontact, hfilter, hcounted, hothers, hrest⟩ := h
  rw [setState, setContact_contact_same] at hcontact
  exact ⟨hcontact, hfilter, hcounted, fun j hj => AgreeAt.trans ((setContact_within i _ d).1 j hj) (hothers j hj), hrest⟩

theorem settleBegun_setState : (d.setState i c).settleBegun i q = d.settleBegun i q := by
  have hcontact : (d.setState i c).contact i = { d.contact i with state := c } := setContact_contact_same d i _
  rw [settleBegun, hcontact]
  exact setContact_setContact i _ _ (d.setFilter i _)

/-! ## The samples of a settle -/

/-- The device once a sample of a settle has been smoothed, `left` samples to come (R50). -/
def settleCounted (i : Slot) (q : Sample) (left : Nat) (d : Device) : Device :=
  (d.smoothFilter i q).setContact i { d.contact i with settle := left }

theorem settleCounted_moved (left : Nat) : d.UnitMoved i (d.settleCounted i q left) := (UnitMoved.refl.setFilter _).setContact _

theorem settleCounted_contact (left : Nat) : (d.settleCounted i q left).contact i = { d.contact i with settle := left } :=
  setContact_contact_same _ i _

theorem settleCounted_filter (left : Nat) :
    (d.settleCounted i q left).filter i = smoothValue (d.slot i).params.smoothing.toNat (d.corrected i q) (d.filter i) :=
  setFilter_filter_same d i _

/-- A sample below the effective up threshold is a short contact (R42, R50). -/
theorem settlingSample_below (hp : q.fields.pressure < effectiveUp (d.slot i).params) :
    d.settlingSample i q =
      d.setContact i { d.contact i with state := .hover, settle := 0, shortContacts := satInc (d.contact i).shortContacts } := if_pos hp

/-- Another is smoothed and counted, and the last of them judged (R50). -/
theorem settlingSample_counts (hp : ¬q.fields.pressure < effectiveUp (d.slot i).params) :
    d.settlingSample i q =
      let e := d.settleCounted i q ((d.contact i).settle - 1)
      if 0 < (d.contact i).settle - 1 then e
      else if d.allows i (d.effectiveEnd i q) (d.activeZone i q) then e.openFrom i q (d.activeZone i q)
      else e.blockSlot i (d.activeZone i q) := if_neg hp

/-! ## The samples of a blocked pen -/

/-- A sample at or above the effective up threshold is judged again (R55). -/
theorem blockedSample_judged (hp : ¬q.fields.pressure < effectiveUp (d.slot i).params) :
    d.blockedSample i q =
      if d.allows i (d.effectiveEnd i q) (d.activeZone i q) then (d.seedFilter i q).openFrom i q (d.activeZone i q) else d := if_neg hp

end

end Device

open Device

/-- Settles O13: the contact begin overwrites the state in which it finds its slot. -/
theorem contactBeginOpensStroke : Obligations.ContactBeginOpensStroke := by
  intro s cell i l n f d q h hs hp ha harmed
  have hrow := becomes_of_contact h hs hp
  have hslot : (d.setState i .hover).slot i = { s.dev.slot i with lastSeen := s.dev.clock, lane := l } := received_slot i l n s.dev
  have harmed' : ((d.setState i .hover).slot i).captureArmed = false := by
    rw [hslot]
    exact harmed
  have hcount : ((d.setState i .hover).slot i).params.settleCount = (s.dev.slot i).params.settleCount := by rw [hslot]
  refine ⟨fun hzero => ⟨_, hrow, .of_setState (contactBegin_of_no_settle harmed' ha (hcount.trans hzero))⟩, fun hmore => ?_⟩
  rw [contactBegin_of_settle harmed' ha (fun k => hmore (hcount.symm.trans k)), settleBegun_setState] at hrow
  exact hrow

/-- Settles O14. -/
theorem refusedContactIsBlocked : Obligations.RefusedContactIsBlocked := by
  intro s cell i l n f d q h hs hp ha
  exact ⟨_, becomes_of_contact h hs hp, .of_setState (contactBegin_of_not_allowed ha)⟩

/-- Settles O15: the last sample of a settle is judged as the slot stands with its filter smoothed and its counter at 0. -/
theorem settleCountsDownToStroke : Obligations.SettleCountsDownToStroke := by
  intro s cell i l n f d q v z h hs
  have hcontact : d.contact i = _ := received_contact i l n s.dev
  have hparams : (d.slot i).params = (s.dev.slot i).params := received_params i l n s.dev
  have hsettle : (d.contact i).settle = (s.dev.contact i).settle := by rw [hcontact]
  have hshort : (d.contact i).shortContacts = (s.dev.contact i).shortContacts := by rw [hcontact]
  have hv : smoothValue (d.slot i).params.smoothing.toNat (d.corrected i q) (d.filter i) = v := by
    rw [hparams, show d.filter i = s.dev.filter i from received_filter i l n s.dev i]
  have hrow : Becomes (.sample cell) s (d.settlingSample i q) := (becomes_of_inRange h).1 hs
  refine ⟨fun hp => ?_, fun hp => ?_⟩
  · rw [settlingSample_below (by rw [hparams]; exact hp), hshort] at hrow
    exact hrow
  rw [settlingSample_counts (by rw [hparams]; exact hp), hsettle] at hrow
  refine ⟨fun hmore => ?_, fun hlast => ?_⟩
  · rw [if_pos (by omega), settleCounted, smoothFilter, hv] at hrow
    exact hrow
  rw [hlast, if_neg (by omega), Nat.sub_self] at hrow
  have hmoved := settleCounted_moved (i := i) (q := q) (d := d) 0
  have hcounted := settleCounted_contact (i := i) (q := q) (d := d) 0
  have hfilter : (d.settleCounted i q 0).filter i = v := (settleCounted_filter 0).trans hv
  by_cases ha : d.allows i (d.effectiveEnd i q) z = true
  · have hpoint : (d.settleCounted i q 0).unitPoint i = v.unitPoint := congrArg FilterValue.unitPoint hfilter
    obtain ⟨kopened, kcontact, kfilter, ksummary, kothers, kkept⟩ := hmoved.openFrom hpoint q z
    rw [if_pos ha] at hrow
    refine ⟨_, hrow, kfilter.trans hfilter, ksummary, ?_, kothers, kkept⟩
    rw [if_pos ha]
    exact ⟨by rw [kcontact, hcounted], kopened⟩
  · obtain ⟨kcounted, kfilter, krest, kothers, kkept⟩ := hmoved.blockSlot z
    have ksummary : ((d.settleCounted i q 0).blockSlot i z).summary i = d.summary i := by
      rw [krest]
      rfl
    rw [if_neg ha] at hrow
    refine ⟨_, hrow, kfilter.trans hfilter, ksummary, ?_, kothers, kkept⟩
    rw [if_neg ha]
    exact ⟨by rw [blockSlot_contact_same, hcounted], kcounted, krest⟩

/-- Settles O21: the judgement leaves no trace where it refuses, and begins a stroke at once where it allows. -/
theorem blockedPenIsJudgedAgain : Obligations.BlockedPenIsJudgedAgain := by
  intro s cell i l n f d q u z h hs
  have hparams : (d.slot i).params = (s.dev.slot i).params := received_params i l n s.dev
  have hrow : Becomes (.sample cell) s (d.blockedSample i q) := (becomes_of_inRange h).2.2.2 hs
  rw [← hparams]
  refine ⟨fun hp => hrow.trans ?_, fun hp => ?_⟩
  · rw [blockedSample, if_pos hp]
  rw [blockedSample_judged hp] at hrow
  refine ⟨fun ha => ?_, fun ha => ?_⟩
  · rw [if_neg (Bool.eq_false_iff.mp ha)] at hrow
    exact hrow
  · rw [if_pos ha] at hrow
    obtain ⟨hopened, hcontact, hfilter, hsummary, -, hothers, hkept⟩ := openFrom_seeded i q d
    have hslot : ((d.seedFilter i q).openFrom i q z).slot i = d.slot i := congrArg (fun p : PenTable => p.slots[i]) hkept.2.2.2.2.1
    exact ⟨_, hrow, hcontact, hfilter, hopened, hsummary, hslot, hothers, hkept⟩

end Sys2Proof.Machine
end

section
/-! SUPPORT. What a sample does to a drawing pen, with the filter's write taken behind the stroke's operations: a continued stroke, a split, a
refused split, and a lift (R51, R52, R88, R90, R91, R111). -/

namespace Sys2Proof.Machine

namespace Device

/-- The value to which a sample smooths its slot's filter (R108). -/
def smoothed (i : Slot) (q : Sample) (d : Device) : FilterValue :=
  smoothValue (d.slot i).params.smoothing.toNat (d.corrected i q) (d.filter i)

/-- The test of R111, coordinate by coordinate. -/
theorem segmentDue_iff (m : Byte) (last p : Point) :
    segmentDue m last p = true ↔
      ¬((p.x.toNat : Int) - last.x.toNat = 0 ∧ (p.y.toNat : Int) - last.y.toNat = 0) ∧
        (m.toNat : Int) ^ 2 ≤
          ((p.x.toNat : Int) - last.x.toNat) * ((p.x.toNat : Int) - last.x.toNat) +
            ((p.y.toNat : Int) - last.y.toNat) * ((p.y.toNat : Int) - last.y.toNat) := by
  simp only [segmentDue, Bool.and_eq_true, Bool.not_eq_true', Bool.and_eq_false_iff, decide_eq_true_eq, decide_eq_false_iff_not, pow_two,
    not_and_or]
  exact and_comm

section
variable {i : Slot} {q : Sample} {d : Device}

/-! ## A stroke continued -/

/-- The device once a sample's SEG has been emitted where it is due. -/
def segEmitted (i : Slot) (q : Sample) (due : Prop) [Decidable due] (d : Device) : Device :=
  if due then d.emitSeg i (d.smoothed i q).unitPoint (d.strokeWidth i q) q.stamp else d

theorem segEmitted_setFilter (due : Prop) [Decidable due] (v : FilterValue) :
    (if due then (d.setFilter i v).emitSeg i (d.smoothed i q).unitPoint (d.strokeWidth i q) q.stamp else d.setFilter i v) =
      (d.segEmitted i q due).setFilter i v := by
  rw [emitSeg_setFilter]
  exact (apply_ite (Device.setFilter i v) due _ _).symm

theorem smoothFilter_unitPoint : (d.smoothFilter i q).unitPoint i = (d.smoothed i q).unitPoint :=
  congrArg FilterValue.unitPoint (setFilter_filter_same d i _)

theorem continueStroke_eq :
    d.continueStroke i q =
      (d.segEmitted i q (segmentDue (d.slot i).params.minStep ⟨(d.context i).lastX, (d.context i).lastY⟩ (d.smoothed i q).unitPoint)).setFilter
        i (d.smoothed i q) := by
  rw [← segEmitted_setFilter, ← smoothFilter_unitPoint]
  rfl

theorem segEmitted_within (due : Prop) [Decidable due] : d.Within i (d.segEmitted i q due) :=
  .ite (emitSeg_within i _ _ _ d) (.refl i d)

/-- A SEG leaves the contact fields, the summary and the stroke's identity as they stand. -/
theorem segEmitted_keeps (due : Prop) [Decidable due] :
    (d.segEmitted i q due).contact i = d.contact i ∧ (d.segEmitted i q due).summary i = d.summary i ∧
      ((d.segEmitted i q due).context i).id = (d.context i).id ∧
      ((d.segEmitted i q due).context i).isOpen = (d.context i).isOpen := by
  unfold segEmitted
  split
  · obtain ⟨-, -, hsummaries, -⟩ := emitSeg_rest i (d.smoothed i q).unitPoint (d.strokeWidth i q) q.stamp d
    obtain ⟨hcontext, -⟩ := emitSeg_offered i (d.smoothed i q).unitPoint (d.strokeWidth i q) q.stamp d
    refine ⟨emitSeg_contact _ _ _ i, congrArg (fun v : Vector Summary 12 => v[i]) hsummaries, ?_, ?_⟩ <;> rw [hcontext]
  · exact ⟨rfl, rfl, rfl, rfl⟩

/-! ## The ways of an INKING sample -/

theorem inkSample_of_bound_zone (he : d.effectiveEnd i q = (d.context i).penEnd) (hz : d.boundBankZone i q = (d.context i).zone) :
    d.inkSample i q = d.continueStroke i q := by
  rw [inkSample, if_neg (not_not.mpr he), if_pos hz]

theorem inkSample_of_exit (he : d.effectiveEnd i q = (d.context i).penEnd) (hz : d.boundBankZone i q ≠ (d.context i).zone) :
    d.inkSample i q =
      if d.allows i (d.effectiveEnd i q) (d.activeZone i q) then d.splitAllowed i q (d.activeZone i q)
      else (d.splitRefused i q).blockSlot i (d.activeZone i q) := by
  rw [inkSample, if_neg (not_not.mpr he), if_neg hz]

theorem inkSample_of_end_change (he : d.effectiveEnd i q ≠ (d.context i).penEnd) : d.inkSample i q = d.endChange i q := by
  rw [inkSample, if_pos he]

theorem inkingSample_above (hp : ¬q.fields.pressure < effectiveUp (d.slot i).params) : d.inkingSample i q = d.inkSample i q := if_neg hp

/-! ## Splits -/

/-- An allowed split, the filter's write behind the close (R90). -/
theorem splitAllowed_eq (z : ZoneNo) :
    d.splitAllowed i q z =
      (((d.segEmitted i q ((d.smoothed i q).unitPoint ≠ ⟨(d.context i).lastX, (d.context i).lastY⟩)).closeStroke i .zoneExit q.stamp).setFilter
        i (d.smoothed i q)).openStroke i ⟨z, (d.context i).penEnd, q.fields.pressure, q.stamp, true⟩ := by
  rw [← closeStroke_setFilter, ← segEmitted_setFilter, ite_not, ← smoothFilter_unitPoint]
  rfl

/-- The continuation of an allowed split: opened at the split point behind the close of `g` (R90). -/
theorem split_continues {g : Device} {v : FilterValue} (hg : (g.context i).isOpen = true) (z : ZoneNo) (w : PenEnd) (time : Word32) :
    let c := g.closeStroke i .zoneExit time
    let e := (c.setFilter i v).openStroke i ⟨z, w, q.fields.pressure, q.stamp, true⟩
    c.StrokeOpened i w z v.unitPoint q true e ∧ e.summary i = c.summary i ∧ (c.summary i).count = (g.context i).count ∧
      e.contact i = g.contact i ∧ e.filter i = v := by
  intro c e
  have hmoved : c.UnitMoved i (c.setFilter i v) := UnitMoved.refl.setFilter v
  have hpoint : (c.setFilter i v).unitPoint i = v.unitPoint := congrArg FilterValue.unitPoint (setFilter_filter_same c i v)
  obtain ⟨-, hfilters, -, hsummaries, -⟩ := openStroke_rest i ⟨z, w, q.fields.pressure, q.stamp, true⟩ (c.setFilter i v)
  refine ⟨hmoved.strokeOpened (openStroke_opened hpoint w z true), congrArg (fun m : Vector Summary 12 => m[i]) hsummaries, ?_, ?_,
    (congrArg (fun m : Vector FilterValue 12 => m[i]) hfilters).trans (setFilter_filter_same c i v)⟩
  · rw [show c.summary i = _ from closeStroke_summary_same hg .zoneExit time]
    rfl
  · rw [openStroke_contact, setFilter_contact, closeStroke_contact]

/-- A refused split, the filter's write behind the close (R91). -/
theorem splitRefused_eq : d.splitRefused i q = (d.closeStroke i .zoneExit q.stamp).setFilter i (d.smoothed i q) :=
  closeStroke_setFilter i i .zoneExit q.stamp d (d.smoothed i q)

/-! ## Judgements behind a close -/

/-- A sample is judged by the pens and the layout in force alone. -/
theorem judged_of_layout {e : Device} (hp : e.pens = d.pens) (hl : e.zones.layout = d.zones.layout) :
    e.corrected i q = d.corrected i q ∧ e.effectiveEnd i q = d.effectiveEnd i q ∧ e.activeZone i q = d.activeZone i q ∧
      ∀ w z, e.allows i w z = d.allows i w z := by
  have hslot : e.slot i = d.slot i := congrArg (fun p : PenTable => p.slots[i]) hp
  have hzones : e.zones.activeBank.zones = d.zones.activeBank.zones := congrArg Prod.fst hl
  have hopen : e.zones.activeBank.openArea = d.zones.activeBank.openArea := congrArg Prod.snd hl
  have hcorrected : e.corrected i q = d.corrected i q := by rw [corrected, corrected, hslot]
  refine ⟨hcorrected, by rw [effectiveEnd, effectiveEnd, hslot], ?_, fun w z => ?_⟩
  · rw [activeZone, activeZone, Bank.decode, Bank.decode, hcorrected, hzones]
  · rw [allows, allows, Bank.rulesOf, Bank.rulesOf, hslot, hzones, hopen]

/-- A close changes neither. -/
theorem closeStroke_judged (reason : CloseReason) (time : Word32) :
    (d.closeStroke i reason time).corrected i q = d.corrected i q ∧
      (d.closeStroke i reason time).effectiveEnd i q = d.effectiveEnd i q ∧
      (d.closeStroke i reason time).activeZone i q = d.activeZone i q ∧
      ∀ w z, (d.closeStroke i reason time).allows i w z = d.allows i w z := by
  obtain ⟨-, -, hpens, -⟩ := closeStroke_rest i reason time d
  obtain ⟨-, -, hforce⟩ := closeStroke_steady i reason time d
  exact judged_of_layout hpens (congrArg (fun f => f.2.2) hforce)

/-- An end change is judged as the sample finds the device (R51). -/
theorem endChange_eq :
    d.endChange i q =
      if d.allows i (d.effectiveEnd i q) (d.activeZone i q) then
        ((d.closeStroke i .endChange q.stamp).seedFilter i q).openFrom i q (d.activeZone i q)
      else ((d.closeStroke i .endChange q.stamp).seedFilter i q).blockSlot i (d.activeZone i q) := by
  obtain ⟨-, hend, hzone, hallows⟩ := closeStroke_judged (i := i) (q := q) (d := d) .endChange q.stamp
  rw [← hallows, ← hend, ← hzone]
  rfl

/-! ## A refusal behind a close -/

/-- The slot BLOCKED behind the close of its stroke, the filter written, and the refusal accounted for behind both (R44, R51, R91). -/
theorem closed_blocked (reason : CloseReason) (time : Word32) (v : FilterValue) (z : ZoneNo) :
    let b := d.closeStroke i reason time
    let e := (b.setFilter i v).blockSlot i z
    e.context i = b.context i ∧ e.summary i = b.summary i ∧ e.router = b.router ∧ e.framer = b.framer ∧ b.RefusalCounted z e ∧
      e.contact i = { d.contact i with state := .blocked } ∧ e.filter i = v ∧ e.strokes.candidate = d.strokes.candidate ∧ d.Within i e := by
  intro b e
  have hmoved : b.UnitMoved i (b.setFilter i v) := UnitMoved.refl.setFilter v
  obtain ⟨hcounted, hfilter, hrest, hwithin⟩ := hmoved.blockSlot z
  obtain ⟨-, -, -, hcandidate⟩ := closeStroke_rest i reason time d
  have hkept : e.strokes = b.strokes ∧ e.router = b.router ∧ e.framer = b.framer := by
    rw [show e = _ from hrest]
    exact ⟨rfl, rfl, rfl⟩
  obtain ⟨hstrokes, hrouter, hframer⟩ := hkept
  refine ⟨congrArg (fun t : StrokeAssembler => t.contexts[i]) hstrokes, congrArg (fun t : StrokeAssembler => t.summaries[i]) hstrokes,
    hrouter, hframer, hcounted, ?_, hfilter.trans (setFilter_filter_same b i v),
    (congrArg StrokeAssembler.candidate hstrokes).trans hcandidate, (closeStroke_within i reason time d).trans hwithin⟩
  rw [blockSlot_contact_same, setFilter_contact, closeStroke_contact]

/-! ## Lifts -/

theorem lift_of_no_hold (h : (d.slot i).params.liftHold = 0) :
    d.lift i q = (d.closeStroke i .lift q.stamp).setContact i { d.contact i with state := .hover, liftTime := q.stamp } := by
  have hzero : (d.slot i).params.liftHold.toNat = 0 := congrArg BitVec.toNat h
  have hlift : d.lift i q = ((d.setContact i { d.contact i with liftTime := q.stamp }).closeStroke i .lift q.stamp).setState i .hover :=
    if_pos hzero
  rw [hlift, closeStroke_setContact, setState, setContact_contact_same, setContact_setContact]

theorem lift_of_hold (h : (d.slot i).params.liftHold ≠ 0) :
    d.lift i q =
      d.setContact i
        { d.contact i with state := .holding, liftTime := q.stamp, liftHold := some (d.slot i).params.liftHold.toNat } := by
  have hpos : (d.slot i).params.liftHold.toNat ≠ 0 := fun k => h (BitVec.eq_of_toNat_eq k)
  have hlift : d.lift i q = _ := if_neg hpos
  rw [hlift, setContact_contact_same, setContact_setContact]
  rfl

/-- The effective up threshold is not above the down threshold (R42). -/
theorem not_lt_effectiveUp {p : Profile} {v : BitVec 12} (h : ¬v < p.down) : ¬v < effectiveUp p := by
  unfold effectiveUp
  split
  · next hup => exact fun k => h (BitVec.lt_trans k hup)
  · exact h

/-- Contact fields written before a cell comes stand behind it, the presence timer restarted. -/
theorem received_setContact (i : Slot) (l : Lane) (n : BitVec 4) (c : Contact) (d : Device) :
    (d.setContact i c).received i l n =
      (d.received i l n).setContact i { c with presence := ((d.received i l n).contact i).presence } := by
  have hreached : (d.setContact i c).reached i l n = (d.reached i l n).setContact i c := by
    rw [reached, checkSequence_setContact]
    rfl
  rw [received, hreached, restartPresence, setContact_contact_same, setContact_setContact, received, restartPresence,
    setContact_contact_same, setContact_setContact]
  rfl

end

end Device

end Sys2Proof.Machine
end

section
/-! The samples of a drawing pen: a stroke continued, split, refused, begun anew at the other end, lifted, held and closed (R44, R51 to R53, R85,
R88, R90, R91, R93, R96, R111). -/

namespace Sys2Proof.Machine

open Device

section
variable {s : State} {cell : Cell} {i : Slot} {l : Lane} {n : BitVec 4} {f : SampleFields}

theorem received_smoothed (i : Slot) (l : Lane) (n : BitVec 4) (q : Sample) (d : Device) :
    (d.received i l n).smoothed i q =
      smoothValue (d.slot i).params.smoothing.toNat ((d.received i l n).corrected i q) (d.filter i) := by
  rw [smoothed, received_params, received_filter]

/-- A sample of a drawing pen that is no lift (R51). -/
theorem becomes_of_ink (h : SampleFor s cell i l n f) (hs : (s.dev.contact i).state = .inking)
    (hp : ¬f.pressure < effectiveUp (s.dev.slot i).params) :
    Becomes (.sample cell) s ((s.dev.received i l n).inkSample i ⟨f, s.dev.clock⟩) := by
  obtain ⟨-, hrow, -⟩ := becomes_of_inRange h
  rw [← inkingSample_above (by rw [received_params]; exact hp)]
  exact hrow hs

/-- A held pen's sample that reaches the down threshold (R53). -/
theorem becomes_of_recontact (h : SampleFor s cell i l n f) (hs : (s.dev.contact i).state = .holding)
    (hp : ¬f.pressure < (s.dev.slot i).params.down) :
    Becomes (.sample cell) s
      (((s.dev.received i l n).setContact i { (s.dev.received i l n).contact i with state := .inking, liftHold := none }).inkSample i
        ⟨f, s.dev.clock⟩) := by
  obtain ⟨-, -, hrow, -⟩ := becomes_of_inRange h
  have htaken := hrow hs
  rw [holdingSample, if_neg (by rw [received_params]; exact hp)] at htaken
  exact htaken

/-- It is the sample of the same pen in INKING (R53). -/
theorem exec_sample_of_holding (h : SampleFor s cell i l n f) (hs : (s.dev.contact i).state = .holding)
    (hp : ¬f.pressure < (s.dev.slot i).params.down) :
    exec (.sample cell) s =
      exec (.sample cell) ⟨s.dev.setContact i { s.dev.contact i with state := .inking, liftHold := none }, s.pending⟩ := by
  have hinking : ((s.dev.setContact i { s.dev.contact i with state := .inking, liftHold := none }).contact i).state = .inking := by
    rw [setContact_contact_same]
  have hother :=
    becomes_of_ink (s := ⟨s.dev.setContact i { s.dev.contact i with state := .inking, liftHold := none }, s.pending⟩) h hinking
      (not_lt_effectiveUp hp)
  have hrow := becomes_of_recontact h hs hp
  rw [received_contact] at hrow
  rw [received_setContact, received_contact] at hother
  exact hrow.trans hother.symm

end

/-- Settles O17: the SEG is emitted as it would be with the filter's write behind it. -/
theorem inkInZoneContinuesStroke : Obligations.InkInZoneContinuesStroke := by
  intro s cell i l n f d q v u k dx dy w seg h hs hp hend hzone
  have hv : d.smoothed i q = v := received_smoothed i l n q s.dev
  have hdue := segmentDue_iff (d.slot i).params.minStep ⟨k.lastX, k.lastY⟩ u
  have hrow : Becomes (.sample cell) s (d.inkSample i q) := becomes_of_ink h hs hp
  rw [inkSample_of_bound_zone hend hzone, continueStroke_eq, hv] at hrow
  rw [received_params] at hdue hrow
  -- From here on `d` may be any device.
  clear_value d
  refine ⟨fun hshort => ?_, fun hmoves hfar => ?_⟩
  · rw [segEmitted, if_neg fun hd => ?_] at hrow
    · exact hrow
    · obtain ⟨hmoves, hfar⟩ := hdue.mp hd
      exact hshort.elim hmoves (not_lt_of_ge hfar)
  · rw [segEmitted, if_pos (hdue.mpr ⟨hmoves, hfar⟩), hv] at hrow
    obtain ⟨hcontext, hoffered⟩ := emitSeg_offered i u w q.stamp d
    obtain ⟨-, -, hsummaries, hcandidate, hrest⟩ := emitSeg_rest i u w q.stamp d
    obtain ⟨hothers, hkept⟩ := (emitSeg_within i u w q.stamp d).trans (setFilter_within i v _)
    have hbehind : ∀ e : Device,
        e = { d with strokes := e.strokes, router := e.router, framer := e.framer, notices := e.notices } →
        e.setFilter i v =
          { d with
            filters := (e.setFilter i v).filters, strokes := e.strokes, router := e.router, framer := e.framer,
            notices := e.notices } := fun e he => by
      rw [he]
      rfl
    exact ⟨_, hrow, setFilter_filter_same _ i v, emitSeg_contact u w q.stamp i, congrArg (fun m : Vector Summary 12 => m[i]) hsummaries,
      hcontext, hoffered, hcandidate, hothers, hkept, hbehind _ hrest⟩

/-- Settles O18: the split's SEG and CLOSE are those of the device as the sample finds it, its OPEN that of the device behind them. -/
theorem zoneExitSplitsOrBlocks : Obligations.ZoneExitSplitsOrBlocks := by
  intro s cell i l n f d now q v u k z w seg g c b h hs hp hopen hend hzone
  have hv : d.smoothed i q = v := received_smoothed i l n q s.dev
  have hrow : Becomes (.sample cell) s (d.inkSample i q) := becomes_of_ink h hs hp
  rw [inkSample_of_exit hend hzone] at hrow
  -- From here on `d` may be any device.
  clear_value d
  refine ⟨fun ha => ?allowed, fun ha => ⟨closeStroke_closed hopen .zoneExit now, ?refused⟩⟩
  case allowed =>
    have hg : d.segEmitted i q ((d.smoothed i q).unitPoint ≠ ⟨k.lastX, k.lastY⟩) = g := by
      rw [segEmitted, ite_not, hv]
      rfl
    have hwithin := splitAllowed_within i q z d
    obtain ⟨hcontact, -, -, hkeeps⟩ := segEmitted_keeps (i := i) (q := q) (d := d) ((d.smoothed i q).unitPoint ≠ ⟨k.lastX, k.lastY⟩)
    rw [if_pos ha, splitAllowed_eq, hg, hv] at hrow
    rw [splitAllowed_eq, hg, hv] at hwithin
    rw [hg] at hcontact hkeeps
    have hgopen : (g.context i).isOpen = true := hkeeps.trans hopen
    have hemitted : u ≠ ⟨k.lastX, k.lastY⟩ → g = d.emitSeg i u w now := fun hu => if_neg hu
    obtain ⟨kopened, ksummary, kcount, kcontact, kfilter⟩ := split_continues (q := q) (v := v) hgopen z k.penEnd now
    refine ⟨fun hu => ?_, closeStroke_closed hgopen .zoneExit now, _, hrow, kopened, ksummary, ?_, kcontact.trans hcontact, kfilter,
      hwithin.1, hwithin.2⟩
    · rw [hemitted hu]
      exact emitSeg_offered i u w now d
    · rw [ksummary, kcount]
      by_cases hu : u = ⟨k.lastX, k.lastY⟩
      · rw [if_pos hu, show g = d from if_pos hu]
      · rw [if_neg hu, hemitted hu, (emitSeg_offered i u w now d).1]
  case refused =>
    rw [if_neg (Bool.eq_false_iff.mp ha), splitRefused_eq, hv] at hrow
    exact ⟨_, hrow, closed_blocked .zoneExit now v z⟩

/-- Settles O19: the new contact is judged by the layout in force, which the close does not move. -/
theorem endChangeStartsAnew : Obligations.EndChangeStartsAnew := by
  intro s cell i l n f d q u k z c h hs hp hopen hend
  have hrow : Becomes (.sample cell) s (d.inkSample i q) := becomes_of_ink h hs hp
  obtain ⟨hcorrected, heffective, -⟩ := closeStroke_judged (i := i) (q := q) (d := d) .endChange q.stamp
  have hseeded : c.seedFilter i q = c.setFilter i (seedValue u) := congrArg (fun p => c.setFilter i (seedValue p)) hcorrected
  rw [inkSample_of_end_change hend, endChange_eq, show (d.closeStroke i .endChange q.stamp).seedFilter i q = _ from hseeded] at hrow
  refine ⟨closeStroke_closed hopen .endChange s.dev.clock, ?_⟩
  by_cases ha : d.allows i (d.effectiveEnd i q) z = true
  · have hmoved : c.UnitMoved i (c.setFilter i (seedValue u)) := UnitMoved.refl.setFilter _
    have hfilter : (c.setFilter i (seedValue u)).filter i = seedValue u := setFilter_filter_same c i _
    have hpoint : (c.setFilter i (seedValue u)).unitPoint i = u := by rw [unitPoint, hfilter, unitPoint_seedValue]
    have hcontact : (c.setFilter i (seedValue u)).contact i = d.contact i := closeStroke_contact i i .endChange q.stamp d
    obtain ⟨kopened, kcontact, kfilter, ksummary, kwithin⟩ := hmoved.openFrom hpoint q z
    obtain ⟨hothers, hkept⟩ := (closeStroke_within i .endChange q.stamp d).trans kwithin
    rw [if_pos ha] at hrow
    rw [heffective] at kopened
    refine ⟨_, hrow, ksummary, kfilter.trans hfilter, ?_, hothers, hkept⟩
    rw [if_pos ha]
    have hinking : (d.contact i).state = .inking := (received_state i l n s.dev).trans hs
    exact ⟨by rw [kcontact, hcontact, ← hinking], kopened⟩
  · obtain ⟨kcontext, ksummary, krouter, kframer, kcounted, kcontact, kfilter, kcandidate, hothers, hkept⟩ :=
      closed_blocked (i := i) (d := d) .endChange q.stamp (seedValue u) z
    rw [if_neg ha] at hrow
    refine ⟨_, hrow, ksummary, kfilter, ?_, hothers, hkept⟩
    rw [if_neg ha]
    exact ⟨kcontact, kcontext.trans (closeStroke_context_same hopen .endChange q.stamp), kcounted, krouter, kframer, kcandidate⟩

/-- Settles O20: a lift closes the stroke behind the write of its contact fields or before it alike. -/
theorem liftHoldsThenCloses : Obligations.LiftHoldsThenCloses := by
  intro s cell i l n f d q p k
  have hparams : (d.slot i).params = p := received_params i l n s.dev
  refine ⟨fun h hs hp hopen => ?lifts, fun h hs => ?held, fun hs hdue hopen => ?expires⟩
  case lifts =>
    obtain ⟨-, hrow, -⟩ := becomes_of_inRange h
    have hlift : Becomes (.sample cell) s (d.lift i q) := by
      rw [← show d.inkingSample i q = d.lift i q from if_pos (by rw [hparams]; exact hp)]
      exact hrow hs
    rw [← hparams]
    refine ⟨fun hzero => ?_, fun hhold => ?_⟩
    · rw [lift_of_no_hold hzero] at hlift
      obtain ⟨-, hfilters, -⟩ := closeStroke_rest i .lift q.stamp d
      obtain ⟨hothers, hkept⟩ := (closeStroke_within i .lift q.stamp d).trans (setContact_within i _ _)
      exact ⟨_, hlift, setContact_contact_same _ i _, closeStroke_closed hopen .lift q.stamp,
        congrArg (fun m : Vector FilterValue 12 => m[i]) hfilters, hothers, hkept⟩
    · rw [lift_of_hold hhold] at hlift
      exact hlift
  case held =>
    refine ⟨fun hp => ?_, exec_sample_of_holding h hs, fun hp hend hzone => ⟨_, becomes_of_recontact h hs hp, ?_⟩⟩
    · obtain ⟨-, -, hrow, -⟩ := becomes_of_inRange h
      rw [← show d.holdingSample i q = d from if_pos (by rw [hparams]; exact hp)]
      exact hrow hs
    · let x := d.setContact i { d.contact i with state := .inking, liftHold := none }
      have hcontact : x.contact i = _ := setContact_contact_same d i _
      obtain ⟨kcontact, ksummary, kid, kopen⟩ := segEmitted_keeps (i := i) (q := q) (d := x)
        (segmentDue (x.slot i).params.minStep ⟨(x.context i).lastX, (x.context i).lastY⟩ (x.smoothed i q).unitPoint)
      obtain ⟨hothers, hkept⟩ := (setContact_within i _ d).trans (inkSample_within i q x)
      rw [inkSample_of_bound_zone (d := x) hend hzone, continueStroke_eq] at hothers hkept ⊢
      exact ⟨kcontact.trans hcontact, (setFilter_filter_same _ i _).trans (received_smoothed i l n q s.dev), kid, kopen, ksummary, hothers,
        hkept⟩
  case expires =>
    have hrow : Becomes (.liftHoldExpiry i) s (s.dev.liftHoldExpires i) := rfl
    rw [liftHoldExpires_of_lifts ⟨hs, hdue⟩] at hrow
    obtain ⟨hfilters, -⟩ := closedAt_rest i .lift (s.dev.contact i).liftTime { s.dev.contact i with state := .hover, liftHold := none } s.dev
    obtain ⟨hothers, hkept⟩ := (closeStroke_within i .lift (s.dev.contact i).liftTime s.dev).trans (setContact_within i _ _)
    exact ⟨_, hrow, closedAt_contact i _ _ _ s.dev, closeStroke_closed hopen .lift _,
      congrArg (fun m : Vector FilterValue 12 => m[i]) hfilters, hothers, hkept⟩

end Sys2Proof.Machine
end

section
/-! RETIRE NOW: the strokes of the retiring bank closed in ascending order of slot, the last of which ends the retiring (R58, R67, R71, R73, R93,
R97). -/

namespace Sys2Proof.Machine

/-! ## The bank that retires -/

theorem ZoneTable.bankOfGeneration_eq_other_iff (z : ZoneTable) (g : Byte) : z.bankOfGeneration g = z.other ↔ g ≠ z.generation := by
  unfold bankOfGeneration
  split
  · next h => exact ⟨fun k => absurd k (otherBank_ne z.active).symm, fun k => absurd h k⟩
  · next h => exact ⟨fun _ => h, fun _ => rfl⟩

theorem ZoneTable.setBank_setBank (z : ZoneTable) (n : BankName) (a b : Bank) : (z.setBank n a).setBank n b = z.setBank n b := by
  cases n <;> rfl

/-- A write to the other bank leaves the active one, and the copy that staging takes of it. -/
theorem ZoneTable.setBank_other_rest (z : ZoneTable) (b : Bank) :
    (z.setBank z.other b).other = z.other ∧ (z.setBank z.other b).activeBank = z.activeBank ∧
      (z.setBank z.other b).stagingCopy = z.stagingCopy := by
  have hne : z.active ≠ z.other := (otherBank_ne z.active).symm
  have hactive : (z.setBank z.other b).activeBank = z.activeBank := by
    rw [activeBank, setBank_active, bank_setBank_ne _ _ hne]
    rfl
  refine ⟨by rw [other, setBank_active]; rfl, hactive, by rw [stagingCopy, hactive]; rfl⟩

/-- The zone table at the end of a retiring (R71). -/
def ZoneTable.retired (z : ZoneTable) : ZoneTable := { z.setBank z.other z.stagingCopy with apply := .idle }

theorem ZoneTable.retired_bank (z : ZoneTable) (n : BankName) : z.retired.bank n = (z.setBank z.other z.stagingCopy).bank n := by
  cases n <;> rfl

/-- A count lowered before it leaves no trace. -/
theorem ZoneTable.retired_setBank_other (z : ZoneTable) (b : Bank) : (z.setBank z.other b).retired = z.retired := by
  obtain ⟨hother, -, hcopy⟩ := z.setBank_other_rest b
  rw [retired, hother, hcopy, setBank_setBank]
  rfl

namespace Device

section
variable {i : Slot} {d : Device}

/-! ## One retired stroke -/

/-- Slot `i` holds a stroke of the bank that retires. -/
abbrev RetiresAt (d : Device) (i : Slot) : Prop := (d.context i).isOpen = true ∧ (d.context i).generation ≠ d.zones.generation

/-- The contact fields of a slot whose stroke has been retired (R58). -/
def retiredContact (c : Contact) : Contact :=
  if c.state = .inking then { c with state := .blocked } else { c with state := .hover, liftHold := none }

/-- A slot with a stroke closes it and is sent to BLOCKED or HOVER. -/
theorem retireStroke_of_open (hs : d.SlotSound i) (ho : (d.context i).isOpen = true) :
    d.retireStroke i = d.closedAt i .retired d.clock (retiredContact (d.contact i)) := by
  obtain ⟨-, -, hopen, -⟩ := hs
  have hcontact : (d.closeStroke i .retired d.clock).contact i = d.contact i := closeStroke_contact i i _ _ d
  unfold retireStroke closedAt retiredContact
  dsimp only
  rw [hcontact]
  rcases hopen.mp ho with h | h
  · rw [h, if_pos rfl, setState, hcontact]
  · rw [h, if_neg nofun]

/-- Beside the contact fields a retired stroke is a closed one. -/
theorem retireStroke_rest (i : Slot) (d : Device) :
    (d.retireStroke i).zones = (d.closeStroke i .retired d.clock).zones ∧
      (d.retireStroke i).notices = (d.closeStroke i .retired d.clock).notices ∧ (d.retireStroke i).filters = d.filters ∧
      (d.retireStroke i).strokes.candidate = d.strokes.candidate := by
  obtain ⟨-, hfilters, -, hcandidate⟩ := closeStroke_rest i .retired d.clock d
  unfold retireStroke
  dsimp only
  split <;> exact ⟨rfl, rfl, hfilters, hcandidate⟩

/-- A retired stroke lowers the count of the bank that retires, and at 0 ends the retiring (R67, R71). -/
theorem retireStroke_zones (h : d.RetiresAt i) (ha : d.zones.apply = .retiring) {n : Nat}
    (hn : (d.zones.bank d.zones.other).bindings = n + 1) :
    if n = 0 then (d.retireStroke i).zones = d.zones.retired ∧ (d.retireStroke i).notices = d.notices.post .applyDone none
    else
      (d.retireStroke i).zones = d.zones.setBank d.zones.other { d.zones.bank d.zones.other with bindings := n } ∧
        (d.retireStroke i).notices = d.notices := by
  obtain ⟨hopen, hgeneration⟩ := h
  obtain ⟨hzones, hnotices, -⟩ := retireStroke_rest i d
  obtain ⟨-, -, -, -, hreleased⟩ := closeStroke_closed hopen .retired d.clock
  rw [(d.zones.bankOfGeneration_eq_other_iff _).mpr hgeneration, hn, Nat.add_sub_cancel, ← hzones, ← hnotices] at hreleased
  by_cases h0 : n = 0
  · rw [if_pos ⟨ha, rfl, h0⟩] at hreleased
    rw [if_pos h0]
    exact hreleased
  · rw [if_neg fun k => h0 k.2.2] at hreleased
    rw [if_neg h0]
    exact hreleased

/-! ## All of them -/

/-- The strokes retired are as many as the retiring bank counts: the last ends the retiring with one APPLY_DONE. -/
theorem fold_retireStroke_zones {l : List Slot} (hl : l.Nodup) (hne : l ≠ []) (hr : ∀ j ∈ l, d.RetiresAt j)
    (ha : d.zones.apply = .retiring) (hn : (d.zones.bank d.zones.other).bindings = l.length) :
    (l.foldl retireStroke d).zones = d.zones.retired ∧ (l.foldl retireStroke d).notices = d.notices.post .applyDone none := by
  induction l generalizing d with
  | nil => exact absurd rfl hne
  | cons j l ih =>
    obtain ⟨hj, hl⟩ := List.nodup_cons.mp hl
    have hstep := retireStroke_zones (hr j List.mem_cons_self) ha hn
    rw [List.foldl_cons]
    by_cases hlast : l = []
    · rw [if_pos (List.length_eq_zero_iff.mpr hlast)] at hstep
      rw [hlast]
      exact hstep
    · rw [if_neg fun k => hlast (List.eq_nil_of_length_eq_zero k)] at hstep
      obtain ⟨hzones, hnotices⟩ := hstep
      obtain ⟨hother, -⟩ := d.zones.setBank_other_rest { d.zones.bank d.zones.other with bindings := l.length }
      have hrest : ∀ k ∈ l, (d.retireStroke j).RetiresAt k := fun k hk => by
        obtain ⟨-, -, hcontext, -⟩ := (retireStroke_within j d).agreeAt fun h => hj (h ▸ hk)
        obtain ⟨-, -, -, -, -, -, hgeneration, -⟩ := (retireStroke_within j d).2
        rw [RetiresAt, hcontext, hgeneration]
        exact hr k (List.mem_cons_of_mem _ hk)
      obtain ⟨kzones, knotices⟩ := ih hl hlast hrest (by rw [hzones, ZoneTable.setBank_apply, ha])
        (by rw [hzones, hother, ZoneTable.bank_setBank_same])
      rw [kzones, knotices, hzones, hnotices, ZoneTable.retired_setBank_other]
      exact ⟨rfl, rfl⟩

theorem retiringSlots_eq (d : Device) : d.retiringSlots = allSlots.filter fun j => d.RetiresAt j := by
  rw [retiringSlots, openSlots, List.filter_filter]
  refine List.filter_congr fun j _ => ?_
  simp only [ZoneTable.bankOfGeneration_eq_other_iff, RetiresAt, Bool.decide_and, Bool.decide_eq_true, Bool.and_comm]

theorem mem_retiringSlots : i ∈ d.retiringSlots ↔ d.RetiresAt i := by
  rw [retiringSlots_eq, List.mem_filter, decide_eq_true_eq]
  exact and_iff_right (mem_allSlots i)

theorem retiringSlots_nodup : d.retiringSlots.Nodup := by
  rw [retiringSlots_eq]
  exact allSlots_nodup.filter _

theorem retiringSlots_length (d : Device) : d.retiringSlots.length = d.openBound fun g => g ≠ d.zones.generation := by
  rw [retiringSlots_eq, openBound, List.countP_eq_length_filter]
  simp only [RetiresAt, Bool.decide_and, Bool.decide_eq_true]

/-- Every stroke of the retiring bank retired, in ascending order of slot (R73, R97). -/
def allRetired (d : Device) : Device := d.retiringSlots.foldl retireStroke d

theorem allRetired_surroundings (d : Device) : d.SurroundingsKept d.allRetired := fold_surroundings (fun e j => retireStroke_within j e) _ d

theorem allRetired_rest (d : Device) : d.allRetired.filters = d.filters ∧ d.allRetired.strokes.candidate = d.strokes.candidate :=
  ⟨fold_keeps (f := fun e => e.filters) (fun e j => (retireStroke_rest j e).2.2.1) _ d,
    fold_keeps (f := fun e => e.strokes.candidate) (fun e j => (retireStroke_rest j e).2.2.2) _ d⟩

/-- A slot without such a stroke is left alone. -/
theorem allRetired_other (h : ¬d.RetiresAt i) : AgreeAt i d d.allRetired :=
  fold_agreeAt_of_notMem (fun e j => retireStroke_within j e) (mt mem_retiringSlots.mp h) d

/-- A slot with one closes it with RETIRED at the session clock. -/
theorem allRetired_at (hs : d.SlotSound i) (h : d.RetiresAt i) :
    d.allRetired.context i = StrokeContext.closed ∧ d.allRetired.contact i = retiredContact (d.contact i) ∧
      ∃ v, d.allRetired.summary i = summaryOf (d.context i) .retired d.clock v := by
  obtain ⟨e, ha, ⟨-, hclock, -⟩, -, kcontact, kcontext, -, ksummary⟩ :=
    fold_agreeAt_of_mem (fun e j => retireStroke_within j e) retiringSlots_nodup (mem_retiringSlots.mpr h) d
  have hes := ha.slotSound hs
  obtain ⟨-, hcontact, hcontext, -⟩ := ha
  have hopen : (e.context i).isOpen = true := by
    rw [hcontext]
    exact h.1
  obtain ⟨hclosed, hsummary⟩ := closedAt_of_open hopen .retired e.clock (retiredContact (e.contact i))
  rw [retireStroke_of_open hes hopen] at kcontact kcontext ksummary
  refine ⟨kcontext.trans hclosed, kcontact.trans ?_, e.router.delivery (e.context i).id, ksummary.trans ?_⟩
  · rw [closedAt_contact, hcontact]
  · rw [hsummary, hcontext, hclock]

/-- Their CLOSE records reach the router in ascending order of slot (R97). -/
theorem allRetired_sameOutput (hs : d.SlotsSound) :
    SameOutput (d.closesRouted (fun _ => .retired) (fun _ => d.clock) (allSlots.filter fun j => d.RetiresAt j)) d.allRetired := by
  have hfold : d.allRetired = allSlots.foldl (fun e j => if decide (d.RetiresAt j) then e.retireStroke j else e) d := by
    rw [allRetired, retiringSlots_eq, List.foldl_filter]
  rw [hfold]
  refine fold_sameOutput (fun e j => .ite (retireStroke_within j e) (.refl j e)) (fun e j ha hk => ?_) allSlots_nodup
    (fun j _ => AgreeAt.refl j d) (SurroundingsKept.refl d) (SameOutput.refl d)
  by_cases h : decide (d.RetiresAt j) = true
  · have hes := ha.slotSound (hs j)
    obtain ⟨-, -, hcontext, -⟩ := ha
    obtain ⟨-, hclock, -⟩ := hk
    have hopen : (e.context j).isOpen = true := by
      rw [hcontext]
      exact (of_decide_eq_true h).1
    have hclosed := closedAt_sameOutput j .retired e.clock (retiredContact (e.contact j)) e
    rw [if_pos hopen, ← retireStroke_of_open hes hopen, hcontext, hclock] at hclosed
    rw [if_pos h, if_pos h]
    exact hclosed
  · rw [if_neg h, if_neg h]
    exact SameOutput.refl e

/-- The strokes retired end the retiring (R71). -/
theorem allRetired_zones (hb : d.BanksSound) (ha : d.zones.apply = .retiring) :
    d.allRetired.zones = d.zones.retired ∧ d.allRetired.notices = d.notices.post .applyDone none := by
  obtain ⟨-, hcount, -, hretiring⟩ := hb
  rw [← retiringSlots_length] at hcount
  have hpos := hretiring.mp ha
  exact fold_retireStroke_zones retiringSlots_nodup (fun k => by rw [hcount, k] at hpos; exact absurd hpos (lt_irrefl 0))
    (fun j hj => mem_retiringSlots.mp hj) ha hcount

theorem runRetireNow_of_idle (tag : Word16) (hl : d.zones.locked = false) (ha : d.zones.apply = .idle) :
    runRetireNow tag d = d.reply tag 0x35 .done [0] := by
  rw [runRetireNow, if_neg (Bool.eq_false_iff.mp hl), if_pos ha]

theorem runRetireNow_of_retiring (tag : Word16) (hl : d.zones.locked = false) (ha : d.zones.apply = .retiring) :
    runRetireNow tag d = d.allRetired.reply tag 0x35 .done [BitVec.ofNat 8 (d.openBound fun g => g ≠ d.zones.generation)] := by
  rw [runRetireNow, if_neg (Bool.eq_false_iff.mp hl), if_neg (by rw [ha]; exact nofun), ← retiringSlots_length]
  rfl

end

end Device

open Device

/-- Settles O41: the strokes closed are as many as the retiring bank counts, so that the last of them ends the retiring. -/
theorem retireNowEndsRetiring : Obligations.RetireNowEndsRetiring := by
  intro s tag i z k retired hr hl
  refine ⟨fun ha => answers_of_run rfl hr (runRetireNow_of_idle tag hl ha), fun ha hs hb => ?_⟩
  obtain ⟨hzones, hnotices⟩ := allRetired_zones hb ha
  obtain ⟨hrouter, hframer, -⟩ := allRetired_sameOutput hs
  obtain ⟨hfilters, hcandidate⟩ := allRetired_rest s.dev
  obtain ⟨hreceiver, hclock, -, harbiter, hpens, hactive, hgeneration, -⟩ := allRetired_surroundings s.dev
  obtain ⟨hother, hactiveBank, -⟩ := z.setBank_other_rest z.stagingCopy
  refine ⟨_, answers_of_run rfl hr (runRetireNow_of_retiring tag hl ha), congrArg ZoneTable.apply hzones, hactive, hgeneration, ?_, ?_, hnotices,
    ⟨hrouter, hframer⟩, congrArg EgressArbiter.replies (answered_arbiter harbiter), fun h => ?_, fun h => ?_, hpens, hfilters, hclock,
    hreceiver, hcandidate⟩
  · show s.dev.allRetired.zones.activeBank = _
    rw [hzones, ZoneTable.activeBank, ZoneTable.retired_bank]
    exact hactiveBank
  · show s.dev.allRetired.zones.bank z.other = _
    rw [hzones, ZoneTable.retired_bank, ZoneTable.bank_setBank_same]
    rfl
  · obtain ⟨hcontext, hcontact, v, hsummary⟩ := allRetired_at (hs i) h
    have hanswered := fun r => answered_summary s.dev.allRetired r i
    rw [hanswered, hsummary]
    exact ⟨hcontext, rfl, rfl, rfl, rfl, hcontact⟩
  · obtain ⟨-, hcontact, hcontext, -, hsummary⟩ := allRetired_other h
    exact ⟨hcontext, hsummary, hcontact⟩

end Sys2Proof.Machine
end

section
/-! SUPPORT. What the zone table counts and what the lock and the identity hold, said once: `Device.ledger` names these values, `Device.Move` the
operations that move them. An invariant of the ledger is kept by every step as soon as each operation keeps it. -/

namespace Sys2Proof.Machine

/-- The bank exchange, and of each bank its records and its binding count: all of the zone table but the lock and the blocked counters. -/
def ZoneTable.books (z : ZoneTable) :=
  (z.active, z.generation, z.apply, fun n => ((z.bank n).zones, (z.bank n).openArea, (z.bank n).bindings))

/-- What ties a stroke to its zone: that it is open, its zone and bound generation, and what the zone's rules gave and asked (R63, R64, R85). -/
def StrokeContext.tie (k : StrokeContext) := (k.isOpen, k.zone, k.generation, k.role, k.group, k.steering, k.widthCap)

/-- The books of the zone table, and the tie of each slot's stroke. -/
def Device.ties (d : Device) := (d.zones.books, fun i => (d.context i).tie)

/-- The layout lock, and the identity with its written flag (R74, R133). -/
def Device.seals (d : Device) := (d.zones.locked, d.framer.written, d.framer.classroom, d.framer.board)

/-- The ties and the seals. -/
def Device.ledger (d : Device) := (d.ties, d.seals)

/-- The rules of zone `z` permit a stroke of slot `i`'s pen (R63, R64). -/
def Device.Admits (d : Device) (i : Slot) (z : ZoneNo) : Prop :=
  resolvedSteering (d.slot i).role (d.slot i).group (d.zones.activeBank.rulesOf z) ≠ .off ∧
    ((d.zones.activeBank.rulesOf z).guarded = true → (d.slot i).role = .teacher)

/-- The operations that move the ledger, hard reset apart; `aside` is all that leaves it alone. Where `placed` holds a stroke opens in a slot that
has none. -/
inductive Device.Move (placed : Prop) : Device → Device → Prop
  | aside {d e : Device} (h : e.ledger = d.ledger) : Move placed d e
  | start {d : Device} {i : Slot} {q : OpenRequest} (hc : placed → (d.context i).isOpen = false) (ha : d.Admits i q.zone) :
      Move placed d (d.openStroke i q)
  | close (d : Device) (i : Slot) (reason : CloseReason) (time : Word32) : Move placed d (d.closeStroke i reason time)
  | stage {d : Device} {f : Bank → Bank} (hl : d.zones.locked = false) (ha : d.zones.apply = .idle)
      (hf : ∀ b, (f b).bindings = b.bindings) :
      Move placed d { d with zones := d.zones.setBank d.zones.other (f (d.zones.bank d.zones.other)) }
  | apply {d : Device} (hl : d.zones.locked = false) (ha : d.zones.apply = .idle) : Move placed d { d with zones := d.zones.applied }
  | lock (d : Device) : Move placed d { d with zones := { d.zones with locked := true } }
  | identify {d : Device} (hw : d.framer.written = false) (c : Word16) (b : Byte) :
      Move placed d { d with framer := { d.framer with classroom := c, board := b, written := true } }
  | restart (d : Device) : Move placed d d.restarted

/-- A chain of such operations. -/
abbrev Device.Moves (placed : Prop) : Device → Device → Prop := Relation.ReflTransGen (Device.Move placed)

namespace Device

variable {placed : Prop}

theorem Moves.aside {d e : Device} (h : e.ledger = d.ledger) : Moves placed d e := .single (.aside h)

theorem Moves.ite {d a b : Device} {c : Prop} [Decidable c] (h : c → Moves placed d a) (k : ¬c → Moves placed d b) :
    Moves placed d (if c then a else b) := by
  split
  · next hc => exact h hc
  · next hc => exact k hc

/-- What stands behind a change of other parts. -/
theorem Moves.behind {d e f : Device} (k : Moves placed e f) (h : e.ledger = d.ledger := by rfl) : Moves placed d f := .head (.aside h) k

/-- A change of other parts behind a chain. -/
theorem Moves.ahead {d e f : Device} (k : Moves placed d e) (h : f.ledger = e.ledger := by rfl) : Moves placed d f := .tail k (.aside h)

theorem Moves.fold {α : Type} {f : Device → α → Device} (h : ∀ e a, Moves placed e (f e a)) (l : List α) (d : Device) :
    Moves placed d (l.foldl f d) := by
  induction l generalizing d with
  | nil => exact .refl
  | cons a l ih => exact (h d a).trans (ih _)

/-! ## What leaves the ledger alone -/

theorem ledger_ite {d a b : Device} {c : Prop} [Decidable c] (h : a.ledger = d.ledger) (k : b.ledger = d.ledger) :
    (if c then a else b).ledger = d.ledger := by
  split
  · exact h
  · exact k

theorem Framed.ledger {d e : Device} (h : d.Framed e) : e.ledger = d.ledger := by
  obtain ⟨heq, -, -, -, hwritten, hclassroom, hboard, -, -⟩ := h
  unfold Device.ledger seals
  rw [hwritten, hclassroom, hboard, heq]
  rfl

theorem routeOpen_ledger (o : OpenRecord) (st : Steering) (d : Device) : (d.routeOpen o st).ledger = d.ledger := by
  unfold routeOpen
  extract_lets r oa oi sa si orf srf v d1 d2 d3
  have h3 : d3.ledger = d.ledger := ledger_ite (c := srf = true) (ledger_ite (c := orf = true) rfl rfl) (ledger_ite rfl rfl)
  exact ledger_ite ((sixRecordTrigger_framed d3).ledger.trans h3) h3

theorem routeSeg_ledger (i : Slot) (s : SegRecord) (d : Device) : (d.routeSeg i s).ledger = d.ledger := by
  have hshare : ∀ e : Device, (e.offerShareSeg i s).ledger = e.ledger := fun e =>
    ledger_ite (sixRecordTrigger_framed { e with router := _ }).ledger rfl
  unfold routeSeg
  split
  · rfl
  · extract_lets d1
    have h1 : d1.ledger = d.ledger := ledger_ite rfl rfl
    exact ledger_ite ((hshare d1).trans h1) h1

theorem routeClose_ledger (id n : Word16) (reason : CloseReason) (gap : Bool) (time : Word16) (d : Device) :
    (d.routeClose id n reason gap time).ledger = d.ledger := by
  unfold routeClose
  extract_lets r
  split
  · rfl
  · exact ledger_ite (sixRecordTrigger_framed { d with router := _ }).ledger rfl

/-- A context with the same tie. -/
theorem setContext_ledger {i : Slot} {k : StrokeContext} {d : Device} (h : k.tie = (d.context i).tie) :
    (d.setContext i k).ledger = d.ledger := by
  have hties : (fun j => ((d.setContext i k).context j).tie) = fun j => (d.context j).tie := by
    funext j
    by_cases hj : j = i
    · rw [hj, setContext_context_same, h]
    · rw [setContext_context_ne d k hj]
  unfold ledger ties
  rw [hties]
  rfl

theorem emitSeg_ledger (i : Slot) (p : Point) (w : Byte) (time : Word32) (d : Device) : (d.emitSeg i p w time).ledger = d.ledger :=
  (routeSeg_ledger i _ _).trans (setContext_ledger rfl)

theorem markLaneGap_ledger (l : Lane) (d : Device) : (d.markLaneGap l).ledger = d.ledger := by
  have hties : (fun i => ((d.markLaneGap l).context i).tie) = fun i => (d.context i).tie := by
    funext i
    rw [markLaneGap_context]
    split <;> rfl
  unfold ledger ties
  rw [hties]
  rfl

/-- A bank with the same records and the same count. -/
theorem setBank_books {z : ZoneTable} {n : BankName} {b : Bank} (hz : b.zones = (z.bank n).zones) (ho : b.openArea = (z.bank n).openArea)
    (hb : b.bindings = (z.bank n).bindings) : (z.setBank n b).books = z.books := by
  unfold ZoneTable.books
  rw [ZoneTable.setBank_active, ZoneTable.setBank_generation, ZoneTable.setBank_apply]
  congr 3
  funext m
  by_cases h : m = n
  · rw [h, ZoneTable.bank_setBank_same, hz, ho, hb]
  · rw [ZoneTable.bank_setBank_ne _ _ h]

/-- The zone table with the same books and the same lock. -/
theorem zones_ledger {z : ZoneTable} {d : Device} (h : z.books = d.zones.books) (hl : z.locked = d.zones.locked) :
    Device.ledger { d with zones := z } = d.ledger := by
  unfold ledger ties seals
  rw [h, hl]
  rfl

theorem blockSlot_ledger (i : Slot) (z : ZoneNo) (d : Device) : (d.blockSlot i z).ledger = d.ledger :=
  ledger_ite (zones_ledger (d := d.setContact i _) (setBank_books rfl rfl rfl) (ZoneTable.setBank_locked _ _ _)) rfl

/-- A change of the blocked counters alone. -/
theorem blocked_ledger (a b : Vector Word16 17) (d : Device) :
    Device.ledger
        { d with zones := { d.zones with bankA := { d.zones.bankA with blocked := a }, bankB := { d.zones.bankB with blocked := b } } } =
      d.ledger := by
  refine zones_ledger ?_ rfl
  unfold ZoneTable.books
  congr 3
  funext n
  cases n <;> rfl

theorem flushTrigger_ledger (d : Device) : d.flushTrigger.ledger = d.ledger :=
  ledger_ite rfl (ledger_ite (buildFrame_framed d).ledger rfl)

theorem drain_ledger (d : Device) : d.drain.ledger = d.ledger :=
  have hend : ∀ e : Device, e.endDraining.ledger = e.ledger := fun _ => ledger_ite rfl rfl
  (hend _).trans (buildWhile_framed 1 2 d).ledger

theorem shareOffClose_ledger (d : Device) (i : Slot) : (d.shareOffClose i).ledger = d.ledger := by
  unfold shareOffClose
  extract_lets k
  split
  · rfl
  · exact ledger_ite rfl rfl

theorem disableShare_ledger (d : Device) : d.disableShare.ledger = d.ledger :=
  (drain_ledger _).trans (fold_keeps (f := Device.ledger) shareOffClose_ledger allSlots _)

theorem takeFreedBuffer_ledger (d : Device) : d.takeFreedBuffer.ledger = d.ledger := by
  unfold takeFreedBuffer
  split
  · exact (sixRecordTrigger_framed _).ledger.trans (ledger_ite (buildFrame_framed d).ledger rfl)
  · exact drain_ledger d
  · rfl

theorem pacerExpires_ledger (d : Device) : d.pacerExpires.ledger = d.ledger := ledger_ite (flushTrigger_ledger d) rfl

theorem overlayBegins_ledger (ready : Bool) (d : Device) : (d.overlayBegins ready).ledger = d.ledger := by
  unfold overlayBegins
  split <;> rfl

theorem egressBegins_ledger (ready : Bool) (d : Device) : (d.egressBegins ready).ledger = d.ledger := by
  unfold egressBegins frameBegins
  repeat' split
  all_goals rfl

theorem frameCompletes_ledger (d : Device) : d.frameCompletes.ledger = d.ledger := by
  unfold frameCompletes
  split
  · exact takeFreedBuffer_ledger _
  · rfl

/-! ## Range reads -/

theorem clearRead_ledger (t : ReadTarget) (n : Nat) (d : Device) : (d.clearRead t n).ledger = d.ledger := by
  unfold clearRead
  split
  · unfold clearItem
    split
    case h_3 => exact blocked_ledger _ _ d
    all_goals rfl
  · rfl

theorem readItem_ledger (r : RangeRead) (d : Device) : (d.readItem r).ledger = d.ledger :=
  ledger_ite rfl (clearRead_ledger r.target r.next (d.reply _ _ _ _))

theorem readBurst_ledger (n : Nat) (d : Device) : (readBurst n d).ledger = d.ledger := by
  induction n generalizing d with
  | zero => rfl
  | succ n ih =>
    unfold readBurst
    split
    · rfl
    · exact ledger_ite ((ih _).trans (readItem_ledger _ d)) rfl

theorem startRead_ledger (r : RangeRead) (d : Device) : (d.startRead r).ledger = d.ledger := readBurst_ledger _ (d.setReading (some r))

theorem tableRead_ledger (tag : Word16) (t : ReadTarget) (a b : Byte) (n : Nat) (d : Device) :
    (d.tableRead tag t a b n).ledger = d.ledger := ledger_ite (startRead_ledger _ d) rfl

theorem nextItem_ledger (d : Device) : d.nextItem.ledger = d.ledger := by
  unfold nextItem
  split
  · rfl
  · exact ledger_ite (readItem_ledger _ d) rfl

end Device

end Sys2Proof.Machine
end

section
/-! SUPPORT. The operations of the contact unit and of the Pen Table as chains of moves of the ledger: a stroke opens by a zone that permits it,
and, in a slot that agrees with itself, only where none is open. -/

namespace Sys2Proof.Machine

open Device

namespace Device

variable {placed : Prop} {i : Slot} {d : Device}

/-! ## The contact unit -/

/-- A zone that allows the pen permits its stroke (R44, R63, R64). -/
theorem allows_admits {w : PenEnd} {z : ZoneNo} (h : d.allows i w z = true) : d.Admits i z := by
  simp only [allows, zoneAllows, Bool.and_eq_true, Bool.or_eq_true, Bool.not_eq_true', decide_eq_true_eq] at h
  obtain ⟨⟨hsteering, hguard⟩, -⟩ := h
  exact ⟨hsteering, fun hg => hguard.resolve_left (by rw [hg]; exact nofun)⟩

/-- What the rules in force permit stands while the layout and the slot's pen do. -/
theorem Admits.of_still {e : Device} {z : ZoneNo} (h : d.Admits i z) (hz : e.zones.inForce = d.zones.inForce) (hs : e.slot i = d.slot i) :
    e.Admits i z := by
  obtain ⟨hzones, harea⟩ : e.zones.activeBank.zones = d.zones.activeBank.zones ∧ e.zones.activeBank.openArea = d.zones.activeBank.openArea := by
    simp only [ZoneTable.inForce, ZoneTable.layout, Prod.mk.injEq] at hz
    exact hz.2.2
  have hrules : e.zones.activeBank.rulesOf z = d.zones.activeBank.rulesOf z := by
    unfold Bank.rulesOf
    rw [hzones, harea]
  unfold Admits
  rw [hrules, hs]
  exact h

theorem openFrom_moves (hc : placed → (d.context i).isOpen = false) (s : Sample) {z : ZoneNo} (ha : d.Admits i z) :
    Moves placed d (d.openFrom i s z) := .ahead (.single (.start hc ha))

/-- A contact judged by a zone, in a slot without a stroke. -/
theorem judged_moves (hc : placed → (d.context i).isOpen = false) (s : Sample) (w : PenEnd) (z : ZoneNo) :
    Moves placed d (if d.allows i w z then d.openFrom i s z else d.blockSlot i z) :=
  .ite (fun h => openFrom_moves hc s (allows_admits h)) fun _ => .aside (blockSlot_ledger i z d)

theorem contactBegin_moves (hc : placed → (d.context i).isOpen = false) (s : Sample) : Moves placed d (d.contactBegin i s) := by
  unfold contactBegin
  extract_lets e zone count c m
  refine .ite (fun _ => .aside (blockSlot_ledger i zone e)) fun hallowed => .ite (fun _ => .aside (ledger_ite rfl rfl)) fun _ =>
    .ite (fun _ => ?_) fun _ => .aside rfl
  exact .behind (openFrom_moves (d := e) hc s (allows_admits (by simpa using hallowed)))

theorem hoverSample_moves (hc : placed → (d.context i).isOpen = false) (s : Sample) : Moves placed d (d.hoverSample i s) :=
  .ite (fun _ => .refl) fun _ => contactBegin_moves hc s

theorem settlingSample_moves (hc : placed → (d.context i).isOpen = false) (s : Sample) : Moves placed d (d.settlingSample i s) := by
  unfold settlingSample
  extract_lets c0 e left c1 m zone
  exact .ite (fun _ => .aside rfl) fun _ => .ite (fun _ => .aside rfl) fun _ => .behind (judged_moves (d := m) hc s _ zone)

/-- An end change closes the stroke before the new contact is judged (R51, R96). -/
theorem endChange_moves (s : Sample) : Moves placed d (d.endChange i s) :=
  .head (.close d i .endChange s.stamp) (Moves.behind
    (judged_moves (d := (d.closeStroke i .endChange s.stamp).seedFilter i s) (fun _ => closeStroke_isOpen (d := d) _ _) s _ _))

theorem continueStroke_moves (s : Sample) : Moves placed d (d.continueStroke i s) :=
  .aside (ledger_ite (emitSeg_ledger i _ _ _ (d.smoothFilter i s)) rfl)

/-- A split closes the stroke before its continuation opens (R90). -/
theorem splitAllowed_moves (s : Sample) {z : ZoneNo} (ha : d.Admits i z) : Moves placed d (d.splitAllowed i s z) := by
  unfold splitAllowed
  extract_lets d1 p k d2 d3
  have hsteady : d.Steady d3 :=
    (Steady.ite (setFilter_steady i _ d) ((setFilter_steady i _ d).trans (emitSeg_steady i p _ _ _))).trans (closeStroke_steady i _ _ _)
  have hwithin : d.Within i d3 :=
    (Within.ite (setFilter_within i _ d) ((setFilter_within i _ d).trans (emitSeg_within i p _ _ _))).trans (closeStroke_within i _ _ _)
  obtain ⟨-, -, -, -, -, hpens, -⟩ := hwithin
  have hslot : d3.slot i = d.slot i := by rw [slot, hpens]; rfl
  have h2 : d2.ledger = d.ledger := ledger_ite rfl (emitSeg_ledger i _ _ _ _)
  exact .behind (e := d2) (.head (.close d2 i _ _) (.single (.start (fun _ => closeStroke_isOpen _ _) (ha.of_still hsteady.2.2 hslot)))) h2

theorem inkSample_moves (s : Sample) : Moves placed d (d.inkSample i s) := by
  have hrefused : Moves placed d (d.splitRefused i s) := .behind (e := d.smoothFilter i s) (.single (.close _ i _ _))
  exact .ite (fun _ => endChange_moves s) fun _ => .ite (fun _ => continueStroke_moves s) fun _ =>
    .ite (fun h => splitAllowed_moves s (allows_admits h)) fun _ => .ahead hrefused (blockSlot_ledger i _ _)

theorem lift_moves (s : Sample) : Moves placed d (d.lift i s) :=
  .ite (fun _ => .behind (e := d.setContact i { d.contact i with liftTime := s.stamp }) (.ahead (.single (.close _ i _ _))))
    fun _ => .aside rfl

theorem holdingSample_moves (s : Sample) : Moves placed d (d.holdingSample i s) :=
  .ite (fun _ => .refl) fun _ => .behind (e := d.setContact i _) (inkSample_moves s)

theorem blockedSample_moves (hc : placed → (d.context i).isOpen = false) (s : Sample) : Moves placed d (d.blockedSample i s) :=
  .ite (fun _ => .aside rfl) fun _ =>
    .ite (fun h => .behind (openFrom_moves (d := d.seedFilter i s) hc s (allows_admits h))) fun _ => .refl

theorem captureSample_moves (s : Sample) : Moves placed d (d.captureSample i s) := by
  unfold captureSample
  refine .ite (fun _ => .aside rfl) fun _ => ?_
  split
  · exact .refl
  · exact .aside (ledger_ite rfl rfl)

/-- A sample at a slot that agrees with itself opens a stroke only where the slot has none (R47 to R56, R81). -/
theorem takeSample_moves (h : placed → d.SlotSound i) (s : Sample) : Moves placed d (d.takeSample i s) := by
  have hclosed : (d.contact i).state ≠ .inking → (d.contact i).state ≠ .holding → placed → (d.context i).isOpen = false := fun hi hh hp =>
    (h hp).closed hi hh
  unfold takeSample
  split
  · exact .refl
  · next hs =>
    exact .behind (hoverSample_moves (d := (d.setState i .hover).restartPresence i) (hclosed (hs ▸ nofun) (hs ▸ nofun)) s)
  · next hs => exact .behind (hoverSample_moves (d := d.restartPresence i) (hclosed (hs ▸ nofun) (hs ▸ nofun)) s)
  · next hs => exact .behind (settlingSample_moves (d := d.restartPresence i) (hclosed (hs ▸ nofun) (hs ▸ nofun)) s)
  · exact .behind (e := d.restartPresence i) (.ite (fun _ => lift_moves s) fun _ => inkSample_moves s)
  · exact .behind (e := d.restartPresence i) (holdingSample_moves s)
  · next hs => exact .behind (blockedSample_moves (d := d.restartPresence i) (hclosed (hs ▸ nofun) (hs ▸ nofun)) s)
  · exact .behind (e := d.restartPresence i) (captureSample_moves s)

theorem takeEnter_ledger (i : Slot) (d : Device) : (d.takeEnter i).ledger = d.ledger := by
  unfold takeEnter
  split <;> rfl

/-- A close, and the contact fields written behind it. -/
theorem closes_moves (reason : CloseReason) (time : Word32) {e : Device} (h : e.ledger = (d.closeStroke i reason time).ledger := by rfl) :
    Moves placed d e := .ahead (.single (.close d i reason time)) h

theorem takeLeave_moves (stamp : Word32) : Moves placed d (d.takeLeave i stamp) := by
  unfold takeLeave
  split
  · exact .refl
  · exact .refl
  · exact closes_moves .lost stamp
  · exact closes_moves .lift (d.contact i).liftTime
  · exact .aside rfl

theorem dropRange_moves (reason : CloseReason) : Moves placed d (d.dropRange i reason) := by
  unfold dropRange
  split
  · exact .refl
  · exact .refl
  · exact closes_moves reason d.clock
  · exact closes_moves reason d.clock
  · exact .aside rfl

theorem retireStroke_moves : Moves placed d (d.retireStroke i) := by
  refine closes_moves (i := i) .retired d.clock ?_
  unfold retireStroke
  extract_lets e
  split <;> rfl

theorem liftHoldExpires_moves : Moves placed d (d.liftHoldExpires i) :=
  .ite (fun _ => closes_moves .lift (d.contact i).liftTime) fun _ => .refl

theorem presenceExpires_moves : Moves placed d (d.presenceExpires i) := .ite (fun _ => dropRange_moves .lost) fun _ => .refl

theorem takeDue_moves : Moves placed d d.takeDue :=
  .ahead (.fold (fun e i => (liftHoldExpires_moves (d := e) (i := i)).trans presenceExpires_moves) allSlots d) (pacerExpires_ledger _)

theorem linkFalls_moves : Moves placed d d.linkFalls :=
  .behind (.fold (f := fun e i => e.dropRange i .lost) (fun e i => dropRange_moves .lost) allSlots d.lineDown)

/-! ## The Pen Table -/

theorem forceFree_moves : Moves placed d (d.forceFree i) := closes_moves .forced d.clock

theorem disableSlot_moves : Moves placed d (d.disableSlot i) := by
  rw [disableSlot_cases]
  exact .ite (fun _ => .ahead forceFree_moves) fun _ => .aside rfl

theorem cancelCaptureAt_ledger (i : Slot) (d : Device) : (d.cancelCaptureAt i).ledger = d.ledger := ledger_ite (ledger_ite rfl rfl) rfl

theorem bindAttempt_ledger (t : Word24) (l : Lane) (stamp : Word32) (d : Device) : (d.bindAttempt t l stamp).2.ledger = d.ledger := by
  unfold bindAttempt chooseSlot
  split
  · rfl
  · cases d.freeSlotNo with
    | some i => rfl
    | none => cases d.oldestAway <;> rfl

theorem checkSequence_ledger (l : Lane) (n : BitVec 4) (d : Device) : (d.checkSequence l n).ledger = d.ledger :=
  ledger_ite rfl (markLaneGap_ledger l (Device.post .laneGap (laneSubject l) (d.setLane l _)))

theorem penSample_moves (h : placed → d.SlotsSound) (l : Lane) (s : Sample) : Moves placed d (d.penSample l s) := by
  unfold penSample
  split
  · next i _ =>
    exact .behind (e := d.seen i l s.stamp) (takeSample_moves (fun hp => (Act.seen d i l s.stamp).slotsSound (h hp) i) s)
  · have hledger := bindAttempt_ledger s.fields.transducer l s.stamp d
    have hsound := fun hp => bindAttempt_slotsSound (h hp) s.fields.transducer l s.stamp
    generalize d.bindAttempt s.fields.transducer l s.stamp = r at hledger hsound ⊢
    obtain ⟨_ | i, e⟩ := r
    · exact .aside hledger
    · exact .behind (takeSample_moves (fun hp => hsound hp i) s) hledger

theorem penProximity_moves (l : Lane) (t : Word24) (ev : ProximityEvent) (stamp : Word32) :
    Moves placed d (d.penProximity l t ev stamp) := by
  unfold penProximity
  split
  · exact .aside (takeEnter_ledger _ _)
  · exact .behind (e := d.seen _ l stamp) (takeLeave_moves stamp)
  · exact .aside (bindAttempt_ledger t l stamp d)
  · exact .refl

end Device

end Sys2Proof.Machine
end

section
/-! SUPPORT. Every command, and every step but a hard reset, as a chain of moves of the ledger. -/

namespace Sys2Proof.Machine

open Device

variable {placed : Prop} {d : Device}

/-! ## Commands -/

theorem ApplyState.eq_idle {a : ApplyState} (h : a ≠ .retiring) : a = .idle := by
  cases a with
  | idle => rfl
  | retiring => exact absurd rfl h

theorem Device.onBound_moves (tag : Word16) (code : Byte) (slot : BitVec 4) {f : Slot → Device → Device}
    (h : ∀ i e, Moves placed e (f i e)) : Moves placed d (d.onBound tag code slot f) := by
  unfold onBound
  split
  · exact .aside rfl
  · exact .ite (fun _ => .aside rfl) fun _ => .ahead (h _ d)

/-- A write to the staging bank is made while the layout is unlocked and no bank retires (R68). -/
theorem Device.writeStaging_moves (tag : Word16) (code : Byte) {f : Bank → Bank} (hf : ∀ b, (f b).bindings = b.bindings) :
    Moves placed d (d.writeStaging tag code f) :=
  .ite (fun _ => .aside rfl) fun hl => .ite (fun _ => .aside rfl) fun ha =>
    .ahead (.single (.stage (Bool.not_eq_true _ ▸ hl) (ApplyState.eq_idle ha) hf))

theorem runApply_moves (t : Word16) : Moves placed d (runApply t d) :=
  .ite (fun _ => .aside rfl) fun hl => .ite (fun _ => .aside rfl) fun ha =>
    .ahead (.single (.apply (Bool.not_eq_true _ ▸ hl) (ApplyState.eq_idle ha)))

theorem runRetireNow_moves (t : Word16) : Moves placed d (runRetireNow t d) :=
  .ite (fun _ => .aside rfl) fun _ => .ite (fun _ => .aside rfl) fun _ =>
    .ahead (.fold (fun _ _ => retireStroke_moves) d.retiringSlots d)

theorem runWriteIdentity_moves (t c : Word16) (b : Byte) : Moves placed d (runWriteIdentity t c b d) :=
  .ite (fun _ => .aside rfl) fun hw => .ahead (.single (.identify (Bool.not_eq_true _ ▸ hw) c b))

theorem runSetSlotEnable_moves (t : Word16) (i : BitVec 4) (on : Bool) : Moves placed d (runSetSlotEnable t i on d) := by
  unfold runSetSlotEnable
  split
  · exact .aside rfl
  · cases on
    · exact .ahead disableSlot_moves
    · exact .aside rfl

theorem Device.reply_ledger (tag : Word16) (code : Byte) (r : Result) (p : List Byte) (d : Device) :
    (d.reply tag code r p).ledger = d.ledger := rfl

theorem runAck_ledger (t : Word16) (k : BitVec 4) (j : BitVec 5) (d : Device) : (runAck t k j d).ledger = d.ledger := by
  unfold runAck
  split
  · split <;> rfl
  · rfl

theorem runShareEnable_ledger (t : Word16) (d : Device) : (runShareEnable t d).ledger = d.ledger := by
  unfold runShareEnable
  split
  · rfl
  · rfl
  · exact ledger_ite rfl rfl

theorem runShareDisable_ledger (t : Word16) (d : Device) : (runShareDisable t d).ledger = d.ledger := by
  unfold runShareDisable
  split
  · exact (reply_ledger _ _ _ _ _).trans (disableShare_ledger d)
  · rfl

theorem runFlush_ledger (t : Word16) (d : Device) : (runFlush t d).ledger = d.ledger := by
  unfold runFlush
  split
  · exact flushTrigger_ledger d
  · rfl

/-- Every execution is a chain of these operations (R155). -/
theorem runCommand_moves (i : Instr) (d : Device) : Moves placed d (runCommand i d) := by
  cases i with
  | restart t => exact .ahead (.single (.restart d))
  | apply t => exact runApply_moves t
  | retireNow t => exact runRetireNow_moves t
  | lockLayout t => exact .ahead (.single (.lock d))
  | writeIdentity t c b => exact runWriteIdentity_moves t c b
  | writeOpenArea t r => exact writeStaging_moves t 0x32 (f := fun b => { b with openArea := r }) fun _ => rfl
  | writeZoneRect t z a b c e =>
    show Moves placed d (runWriteZoneRect t z a b c e d)
    unfold runWriteZoneRect
    split
    · exact .aside rfl
    · exact writeStaging_moves t 0x30 fun _ => rfl
  | writeZoneAttributes t z e r =>
    show Moves placed d (runWriteZoneAttributes t z e r d)
    unfold runWriteZoneAttributes
    split
    · exact .aside rfl
    · exact writeStaging_moves t 0x31 fun _ => rfl
  | setSlotEnable t i on => exact runSetSlotEnable_moves t i on
  | unbind t i => exact onBound_moves t 0x2A i fun _ _ => forceFree_moves
  | forceLeave t i => exact onBound_moves t 0x2B i (f := fun i e => e.dropRange i .forced) fun _ _ => dropRange_moves .forced
  | captureOffset t i x y => exact onBound_moves t 0x2C i fun _ _ => .aside rfl
  | cancelCapture t i => exact onBound_moves t 0x2D i fun i e => .aside (cancelCaptureAt_ledger i e)
  | clearCounters t => exact .aside (blocked_ledger _ _ d)
  | readCounters t g c => exact .aside (ledger_ite rfl (startRead_ledger _ d))
  | readAdmission t a b => exact .aside (tableRead_ledger _ _ _ _ _ d)
  | readProfile t a b => exact .aside (tableRead_ledger _ _ _ _ _ d)
  | readCurve t a b => exact .aside (tableRead_ledger _ _ _ _ _ d)
  | readSlot t a b p => exact .aside (ledger_ite rfl (tableRead_ledger _ _ _ _ _ d))
  | readStroke t a b p => exact .aside (ledger_ite rfl (tableRead_ledger _ _ _ _ _ d))
  | readZone t s a b => exact .aside (ledger_ite rfl (ledger_ite rfl (startRead_ledger _ d)))
  | shareDisable t => exact .aside (runShareDisable_ledger t d)
  | shareEnable t => exact .aside (runShareEnable_ledger t d)
  | flush t => exact .aside (runFlush_ledger t d)
  | ack t k j => exact .aside (runAck_ledger t k j d)
  | setLineThreshold t l => exact .aside (ledger_ite rfl rfl)
  | writeSlotParameters t i p a =>
    show Moves placed d (runWriteSlotParameters t i p a d)
    unfold runWriteSlotParameters
    split <;> exact .aside rfl
  | setOffset t i x y =>
    show Moves placed d (runSetOffset t i x y d)
    unfold runSetOffset
    split <;> exact .aside rfl
  | writeAdmission t i e m k a p =>
    show Moves placed d (runWriteAdmission t i e m k a p d)
    unfold runWriteAdmission
    split <;> exact .aside rfl
  | setLevel t k l =>
    show Moves placed d (runSetLevel t k l d)
    unfold runSetLevel
    split <;> exact .aside rfl
  | _ => exact .aside rfl

/-! ## The command path -/

namespace Device

theorem takeCommands_moves (n : Nat) (d : Device) : Moves placed d (takeCommands n d) := by
  induction n generalizing d with
  | zero => exact .refl
  | succ n ih =>
    unfold takeCommands
    split
    · exact .refl
    · next c rest _ =>
      exact .ite (fun _ => .behind ((runCommand_moves (decodeCommand c) { d with responder := { d.responder with queue := rest } }).trans (ih _)))
        fun _ => .refl

theorem takingTest_moves (d : Device) : Moves placed d d.takingTest := takeCommands_moves _ d

theorem commandArrives_moves (c : Command) (d : Device) : Moves placed d (d.commandArrives c) :=
  .ite (fun _ => .behind (takingTest_moves _)) fun _ => .aside rfl

theorem commandStep_moves (i j : Instr) (d : Device) : Moves placed d (d.commandStep i (runCommand j)) := by
  unfold commandStep
  refine .ite (fun _ => runCommand_moves j d) fun _ => ?_
  split
  · exact commandArrives_moves _ d
  · exact .refl

theorem cellArrives_moves (h : placed → d.SlotsSound) (cell : Cell) : Moves placed d (d.cellArrives cell) := by
  have hchecked : ∀ l n, placed → (d.checkSequence l n).SlotsSound := fun l n hp =>
    (checkSequence_acts l n d).keeps (fun _ _ => Act.slotsSound) (h hp)
  unfold cellArrives
  split
  · exact .refl
  · split
    · exact .behind (penSample_moves (hchecked _ _) _ _) (checkSequence_ledger _ _ d)
    · exact .behind (penProximity_moves _ _ _ _) (checkSequence_ledger _ _ d)
    · exact commandArrives_moves _ d
    · exact .aside rfl

theorem tick_ledger (d : Device) : d.tick.ledger = d.ledger := rfl

theorem replyCompletes_moves : Moves placed d d.replyCompletes := by
  unfold replyCompletes
  split
  · exact .behind (takingTest_moves _)
  · exact .refl

end Device

/-! ## Every step -/

theorem moves_of_onDevice {f : Device → Device} {s t : State} (he : s.onDevice f = .next t) (h : Moves placed s.dev (f s.dev)) :
    Moves placed s.dev t.dev := by
  cases he
  exact h

/-- Every step but a hard reset is a chain of these operations, and in sound slots its strokes open where none is. -/
theorem exec_moves {i : Instr} {s t : State} (he : exec i s = .next t) (hi : isHardReset i = false) :
    Moves s.dev.SlotsSound s.dev t.dev := by
  cases hc : encodeCommand i with
  | some c =>
    rw [exec_of_command hc] at he
    exact moves_of_onDevice he (commandStep_moves i _ s.dev)
  | none =>
    cases i with
    | hardReset v => cases hi
    | linkValidFalls => exact moves_of_onDevice he linkFalls_moves
    | linkValidRises => exact moves_of_onDevice (f := linkRises) he (.aside rfl)
    | millisecondTick => exact moves_of_onDevice (f := millisecond) he (.ahead takeDue_moves (tick_ledger _))
    | sample cell => exact moves_of_onDevice he (cellArrives_moves id cell)
    | proximity cell => exact moves_of_onDevice he (cellArrives_moves id cell)
    | commandCell cell => exact moves_of_onDevice he (cellArrives_moves id cell)
    | invalidCell cell => exact moves_of_onDevice he (cellArrives_moves id cell)
    | presenceExpiry i => exact moves_of_onDevice he (presenceExpires_moves (i := i))
    | liftHoldExpiry i => exact moves_of_onDevice he (liftHoldExpires_moves (i := i))
    | pacerExpiry => exact moves_of_onDevice he (.aside (pacerExpires_ledger s.dev))
    | noticePulseEnd => exact moves_of_onDevice (f := fun d => { d with notices := d.notices.pulseEnds }) he (.aside rfl)
    | overlayTxBegin ready => exact moves_of_onDevice he (.aside (overlayBegins_ledger ready s.dev))
    | overlayTxComplete => exact moves_of_onDevice (f := overlayCompletes) he (.aside (ledger_ite rfl rfl))
    | shareEgressBegin ready => exact moves_of_onDevice he (.aside (egressBegins_ledger ready s.dev))
    | replyTxComplete => exact moves_of_onDevice he replyCompletes_moves
    | frameTxComplete => exact moves_of_onDevice he (.aside (frameCompletes_ledger s.dev))
    | rangeReadNextItem =>
      exact moves_of_onDevice (f := fun d => if d.responder.reading.isSome then d.nextItem.takingTest else d) he
        (.ite (fun _ => .behind (takingTest_moves _) (nextItem_ledger s.dev)) fun _ => .refl)
    | _ => cases hc

end Sys2Proof.Machine
end

section
/-! The layout lock and the identity hold until a hard reset (R74, R133). -/

namespace Sys2Proof.Machine

open Device

theorem ZoneTable.inForce_of_books {w z : ZoneTable} (h : w.books = z.books) : w.inForce = z.inForce := by
  simp only [books, Prod.mk.injEq] at h
  obtain ⟨hactive, hgeneration, -, hbanks⟩ := h
  have hbank := congrFun hbanks z.active
  simp only [Prod.mk.injEq] at hbank
  obtain ⟨hzones, harea, -⟩ := hbank
  exact inForce_eq hactive hgeneration hzones harea

theorem ZoneTable.locked_books (z : ZoneTable) (l : Bool) : books { z with locked := l } = z.books := rfl

theorem ZoneTable.applied_eq (z : ZoneTable) :
    z.applied =
      if z.activeBank.bindings = 0 then
        { z.setBank z.active { z.bank z.other with blocked := Vector.replicate 17 0, bindings := 0 } with
          active := z.other, generation := z.generation + 1 }
      else { z with active := z.other, generation := z.generation + 1, apply := .retiring } := by
  obtain ⟨_, _, n, _, _, _⟩ := z
  unfold applied
  cases n <;> rfl

theorem ZoneTable.applied_locked (z : ZoneTable) : z.applied.locked = z.locked := by
  rw [applied_eq]
  split
  · exact setBank_locked z _ _
  · rfl

theorem ZoneTable.restarted_locked (z : ZoneTable) : z.restarted.locked = z.locked := by
  show (if z.apply = .retiring then z.completeRetiring else z).locked = z.locked
  split
  · exact setBank_locked z _ _
  · rfl

namespace Device

variable {d e : Device}

theorem seals_of_ledger (h : e.ledger = d.ledger) : e.seals = d.seals := congrArg Prod.snd h

theorem ties_of_ledger (h : e.ledger = d.ledger) : e.ties = d.ties := congrArg Prod.fst h

/-- The zone table with the same lock. -/
theorem zones_seals {z : ZoneTable} (h : z.locked = d.zones.locked) : Device.seals { d with zones := z } = d.seals := by
  unfold seals
  rw [h]

theorem openStroke_seals (i : Slot) (q : OpenRequest) (d : Device) : (d.openStroke i q).seals = d.seals :=
  (seals_of_ledger (routeOpen_ledger _ _ (d.beforeRouting i q))).trans
    (zones_seals (d := d.setContext i (d.openedContext i q)) (ZoneTable.setBank_locked _ _ _))

theorem releaseStroke_seals (g : Byte) (d : Device) : (d.releaseStroke g).seals = d.seals := by
  unfold releaseStroke
  extract_lets n b z
  have hz : z.locked = d.zones.locked := ZoneTable.setBank_locked _ _ _
  split
  · exact zones_seals (z := z.completeRetiring) ((ZoneTable.setBank_locked _ _ _).trans hz)
  · exact zones_seals hz

theorem closeStroke_seals (i : Slot) (reason : CloseReason) (time : Word32) (d : Device) : (d.closeStroke i reason time).seals = d.seals := by
  unfold closeStroke
  extract_lets k v d1 d2 d3
  split
  · exact (releaseStroke_seals k.generation d2).trans (seals_of_ledger (routeClose_ledger _ _ _ _ _ d))
  · rfl

/-- Between `d` and `e` the layout lock has held, with the layout in force under it, and so has a written identity. -/
def Held (d e : Device) : Prop :=
  (d.zones.locked = true → e.zones.locked = true ∧ e.zones.inForce = d.zones.inForce) ∧
  (d.framer.written = true → e.framer.written = true ∧ e.framer.classroom = d.framer.classroom ∧ e.framer.board = d.framer.board)

theorem Held.refl (d : Device) : d.Held d := ⟨fun h => ⟨h, rfl⟩, fun h => ⟨h, rfl, rfl⟩⟩

theorem Held.trans {f : Device} (h : d.Held e) (k : e.Held f) : d.Held f := by
  refine ⟨fun hl => ?_, fun hw => ?_⟩
  · obtain ⟨hlocked, hz⟩ := h.1 hl
    obtain ⟨klocked, kz⟩ := k.1 hlocked
    exact ⟨klocked, kz.trans hz⟩
  · obtain ⟨hwritten, hclassroom, hboard⟩ := h.2 hw
    obtain ⟨kwritten, kclassroom, kboard⟩ := k.2 hwritten
    exact ⟨kwritten, kclassroom.trans hclassroom, kboard.trans hboard⟩

/-- Lock and identity as they were, and the layout in force where it is locked. -/
theorem held_of_seals (hs : e.seals = d.seals) (hz : d.zones.locked = true → e.zones.inForce = d.zones.inForce) : d.Held e := by
  simp only [seals, Prod.mk.injEq] at hs
  obtain ⟨hlocked, hwritten, hclassroom, hboard⟩ := hs
  exact ⟨fun h => ⟨hlocked.trans h, hz h⟩, fun h => ⟨hwritten.trans h, hclassroom, hboard⟩⟩

/-- Every operation but a hard reset holds them. -/
theorem Move.held {placed : Prop} (h : Move placed d e) : d.Held e := by
  cases h with
  | aside h => exact held_of_seals (seals_of_ledger h) fun _ => ZoneTable.inForce_of_books (congrArg Prod.fst (ties_of_ledger h))
  | start _ _ => exact held_of_seals (openStroke_seals _ _ d) fun _ => (openStroke_steady _ _ d).2.2
  | close i reason time => exact held_of_seals (closeStroke_seals i reason time d) fun _ => (closeStroke_steady i reason time d).2.2
  | stage hl _ _ => exact held_of_seals (zones_seals (ZoneTable.setBank_locked _ _ _)) fun h => absurd (hl.symm.trans h) nofun
  | apply hl _ => exact held_of_seals (zones_seals (ZoneTable.applied_locked _)) fun h => absurd (hl.symm.trans h) nofun
  | lock => exact ⟨fun _ => ⟨rfl, ZoneTable.inForce_of_books (d.zones.locked_books true)⟩, (Held.refl d).2⟩
  | identify hw c b => exact ⟨(Held.refl d).1, fun h => absurd (hw.symm.trans h) nofun⟩
  | restart => exact ⟨fun h => ⟨d.zones.restarted_locked.trans h, d.zones.restarted_inForce⟩, (Held.refl d).2⟩

theorem Moves.held {placed : Prop} (h : Moves placed d e) : d.Held e := by
  induction h with
  | refl => exact .refl d
  | tail _ hm ih => exact ih.trans hm.held

end Device

/-- Settles O59: a step that is no hard reset is a chain of operations, and each of them holds the lock and the identity. -/
theorem lockAndIdentityHold : Obligations.LockAndIdentityHold := by
  intro i s t he hi
  obtain ⟨hlock, hidentity⟩ := (exec_moves he hi).held
  refine ⟨fun hl => ?_, hidentity⟩
  obtain ⟨hlocked, hz⟩ := hlock hl
  obtain ⟨hactive, hz⟩ := Prod.mk.inj hz
  exact ⟨hlocked, hactive, Prod.mk.inj hz⟩

end Sys2Proof.Machine
end

section
/-! SUPPORT. The banks' promises bank by bank, what the ties of strokes and banks say of them, and the number of open strokes where one slot
has changed (R66, R67, R70). -/

namespace Sys2Proof.Machine

open Device

/-! ## Rules and counts -/

theorem Bank.rulesOf_congr {a b : Bank} (hz : a.zones = b.zones) (ho : a.openArea = b.openArea) (z : ZoneNo) : a.rulesOf z = b.rulesOf z := by
  unfold rulesOf
  rw [hz, ho]

/-- Two predicates that differ at one entry alone of a list without repetition. -/
theorem countP_of_differ_at {α : Type} {f g : α → Bool} {a : α} {l : List α} (hl : l.Nodup) (ha : a ∈ l) (h : ∀ b ≠ a, f b = g b) :
    l.countP f + (g a).toNat = l.countP g + (f a).toNat := by
  induction l with
  | nil => cases ha
  | cons b l ih =>
    obtain ⟨hb, hl⟩ := List.nodup_cons.mp hl
    rw [List.countP_cons, List.countP_cons]
    by_cases hba : b = a
    · subst hba
      have hrest : l.countP f = l.countP g := List.countP_congr fun c hc => by rw [h c (ne_of_mem_of_not_mem hc hb)]
      rw [hrest]
      cases f b <;> cases g b <;> simp
    · have hl' := ih hl ((List.mem_cons.mp ha).resolve_left (Ne.symm hba))
      rw [h b hba]
      omega

namespace Device

variable {d e : Device} {i : Slot}

/-- One slot's part in the number of open strokes bound under `p`. -/
theorem openBound_of_others (ho : d.OthersKept i e) (p : Byte → Bool) :
    e.openBound p + ((d.context i).isOpen && p (d.context i).generation).toNat =
      d.openBound p + ((e.context i).isOpen && p (e.context i).generation).toNat := by
  refine countP_of_differ_at (f := fun j => (e.context j).isOpen && p (e.context j).generation)
    (g := fun j => (d.context j).isOpen && p (d.context j).generation) allSlots_nodup (mem_allSlots i) fun j hj => ?_
  obtain ⟨-, -, hcontext, -⟩ := ho j hj
  rw [hcontext]

theorem openBound_eq_zero_iff {p : Byte → Bool} :
    d.openBound p = 0 ↔ ∀ j, (d.context j).isOpen = true → p (d.context j).generation = false := by
  simp [openBound, List.countP_eq_zero, mem_allSlots]

theorem openBound_congr {p q : Byte → Bool} (h : ∀ j, (d.context j).isOpen = true → p (d.context j).generation = q (d.context j).generation) :
    d.openBound p = d.openBound q := by
  refine List.countP_congr fun j _ => ?_
  cases hj : (d.context j).isOpen with
  | false => simp
  | true => simp [h j hj]

/-- Every open stroke is bound to the active bank or, while RETIRING, to the retiring one (R70). -/
abbrev StrokesBound (d : Device) : Prop :=
  ∀ j, (d.context j).isOpen = true →
    (d.context j).generation = d.zones.generation ∨ d.zones.apply = .retiring ∧ (d.context j).generation = d.zones.generation - 1

/-- A bank counts the open strokes whose generation names it (R66, R67). -/
abbrev CountsTrue (d : Device) : Prop := ∀ n, (d.zones.bank n).bindings = d.openBound fun g => d.zones.bankOfGeneration g = n

/-- RETIRING is the state of a bank with strokes left (R70). -/
abbrev RetiringTrue (d : Device) : Prop := d.zones.apply = .retiring ↔ 0 < (d.zones.bank d.zones.other).bindings

end Device

theorem ZoneTable.bankOfGeneration_eq_active_iff (z : ZoneTable) (g : Byte) : z.bankOfGeneration g = z.active ↔ g = z.generation := by
  unfold bankOfGeneration
  split
  · next h => exact iff_of_true rfl h
  · next h => exact iff_of_false (otherBank_ne z.active) h

theorem BankName.eq_active_or_other (z : ZoneTable) (n : BankName) : n = z.active ∨ n = z.other := by
  unfold ZoneTable.other
  cases n <;> cases z.active <;> simp [otherBank]

namespace Device

variable {d e : Device} {i : Slot}

/-- The banks' promises, bank by bank. -/
theorem banksSound_iff : d.BanksSound ↔ d.CountsTrue ∧ d.StrokesBound ∧ d.RetiringTrue := by
  have hactive : (fun g => decide (g = d.zones.generation)) = fun g => decide (d.zones.bankOfGeneration g = d.zones.active) := by
    funext g
    rw [decide_eq_decide, ZoneTable.bankOfGeneration_eq_active_iff]
  have hother : (fun g => decide (g ≠ d.zones.generation)) = fun g => decide (d.zones.bankOfGeneration g = d.zones.other) := by
    funext g
    rw [decide_eq_decide, ZoneTable.bankOfGeneration_eq_other_iff]
  unfold BanksSound
  rw [hactive, hother]
  constructor
  · rintro ⟨h1, h2, h3, h4⟩
    refine ⟨fun n => ?_, h3, h4⟩
    rcases BankName.eq_active_or_other d.zones n with hn | hn
    · rw [hn]
      exact h1
    · rw [hn]
      exact h2
  · rintro ⟨h, h3, h4⟩
    exact ⟨h _, h _, h3, h4⟩

/-! ## What the ties say -/

section OfTies

variable (h : e.ties = d.ties)

include h

theorem exchange_of_ties :
    e.zones.active = d.zones.active ∧ e.zones.generation = d.zones.generation ∧ e.zones.apply = d.zones.apply := by
  simp only [ties, ZoneTable.books, Prod.mk.injEq] at h
  obtain ⟨⟨hactive, hgeneration, happly, -⟩, -⟩ := h
  exact ⟨hactive, hgeneration, happly⟩

theorem bank_of_ties (n : BankName) :
    (e.zones.bank n).bindings = (d.zones.bank n).bindings ∧ ∀ z, (e.zones.bank n).rulesOf z = (d.zones.bank n).rulesOf z := by
  have hbank := congrFun (congrArg (fun t => t.1.2.2.2) h) n
  simp only [ties, ZoneTable.books, Prod.mk.injEq] at hbank
  obtain ⟨hzones, harea, hbindings⟩ := hbank
  exact ⟨hbindings, Bank.rulesOf_congr hzones harea⟩

theorem context_of_ties (j : Slot) : (e.context j).tie = (d.context j).tie := congrFun (congrArg Prod.snd h) j

end OfTies
end Device

end Sys2Proof.Machine
end

section
/-! SUPPORT. The rules of open strokes, what leaves the ties alone, and a stroke opened (R63, R64, R67, R115). -/

namespace Sys2Proof.Machine

open Device

/-- What a stroke shows of the rules `r` of its zone: a steering that is not OFF, a TEACHER where the zone is protected, and the steering and the
cap that they give (R63, R64, R115). -/
def StrokeContext.PermittedBy (k : StrokeContext) (r : ZoneRules) : Prop :=
  k.steering ≠ .off ∧ (r.guarded = true → k.role = .teacher) ∧ k.steering = resolvedSteering k.role k.group r ∧ k.widthCap = r.widthCap

theorem StrokeContext.PermittedBy.of_tie {k m : StrokeContext} {r : ZoneRules} (h : k.PermittedBy r) (ht : m.tie = k.tie) :
    m.PermittedBy r := by
  simp only [tie, Prod.mk.injEq] at ht
  obtain ⟨-, -, -, hrole, hgroup, hsteering, hcap⟩ := ht
  unfold PermittedBy at h ⊢
  rw [hrole, hgroup, hsteering, hcap]
  exact h

/-- The bank of a generation hangs on the exchange alone. -/
theorem ZoneTable.bankOfGeneration_congr {w z : ZoneTable} (ha : w.active = z.active) (hg : w.generation = z.generation) (g : Byte) :
    w.bankOfGeneration g = z.bankOfGeneration g := by
  unfold bankOfGeneration other
  rw [ha, hg]

/-- A bank rewritten with its records as they were has the rules that it had. -/
theorem ZoneTable.rulesOf_setBank {z : ZoneTable} {n : BankName} {b : Bank} (hz : b.zones = (z.bank n).zones)
    (ho : b.openArea = (z.bank n).openArea) (m : BankName) (w : ZoneNo) :
    ((z.setBank n b).bank m).rulesOf w = (z.bank m).rulesOf w := by
  by_cases h : m = n
  · rw [h, bank_setBank_same]
    exact Bank.rulesOf_congr hz ho w
  · rw [bank_setBank_ne _ _ h]

namespace Device

variable {d e : Device} {i : Slot}

/-- Strokes that keep their ties under rules that keep what they say stay permitted. -/
theorem permitsSound_of_rules (h : d.PermitsSound)
    (hk : ∀ j, (e.context j).isOpen = true →
      ((d.context j).isOpen = true ∧ (e.context j).tie = (d.context j).tie ∧ e.boundRules j = d.boundRules j) ∨
        (e.context j).PermittedBy (e.boundRules j)) : e.PermitsSound := by
  intro j hj
  rcases hk j hj with ⟨hopen, htie, hrules⟩ | hpermitted
  · rw [hrules]
    exact StrokeContext.PermittedBy.of_tie (h j hopen) htie
  · exact hpermitted

/-- The rules of a stroke's zone where the exchange, the bank's records and the stroke's tie are as they were. -/
theorem boundRules_congr {j : Slot} (ha : e.zones.active = d.zones.active) (hg : e.zones.generation = d.zones.generation)
    (ht : (e.context j).tie = (d.context j).tie)
    (hr : ∀ w, (e.zones.bank (d.zones.bankOfGeneration (d.context j).generation)).rulesOf w =
      (d.zones.bank (d.zones.bankOfGeneration (d.context j).generation)).rulesOf w) : e.boundRules j = d.boundRules j := by
  simp only [StrokeContext.tie, Prod.mk.injEq] at ht
  obtain ⟨-, hzone, hgeneration, -⟩ := ht
  unfold boundRules
  rw [ZoneTable.bankOfGeneration_congr ha hg, hgeneration, hzone, hr]

/-! ## What leaves the ties alone -/

theorem banksSound_of_ties (ht : e.ties = d.ties) (h : d.BanksSound) : e.BanksSound := by
  obtain ⟨hcounts, hbound, hretiring⟩ := banksSound_iff.mp h
  obtain ⟨hactive, hgeneration, happly⟩ := exchange_of_ties ht
  have htie : ∀ j, (e.context j).isOpen = (d.context j).isOpen ∧ (e.context j).generation = (d.context j).generation := fun j => by
    have := context_of_ties ht j
    simp only [StrokeContext.tie, Prod.mk.injEq] at this
    exact ⟨this.1, this.2.2.1⟩
  refine banksSound_iff.mpr ⟨fun n => ?_, fun j hj => ?_, ?_⟩
  · rw [(bank_of_ties ht n).1, hcounts n]
    refine List.countP_congr fun j _ => ?_
    simp only [(htie j).1, (htie j).2, ZoneTable.bankOfGeneration_congr hactive hgeneration]
  · rw [(htie j).2, hgeneration, happly]
    exact hbound j ((htie j).1.symm.trans hj)
  · unfold RetiringTrue ZoneTable.other
    rw [happly, hactive, (bank_of_ties ht _).1]
    exact hretiring

theorem permitsSound_of_ties (ht : e.ties = d.ties) (h : d.PermitsSound) : e.PermitsSound := by
  obtain ⟨hactive, hgeneration, -⟩ := exchange_of_ties ht
  refine permitsSound_of_rules h fun j hj => .inl ?_
  have htie := context_of_ties ht j
  have hopen : (e.context j).isOpen = (d.context j).isOpen := congrArg Prod.fst htie
  exact ⟨hopen.symm.trans hj, htie, boundRules_congr hactive hgeneration htie (bank_of_ties ht _).2⟩

/-- With no stroke open, no count above 0 and no bank retiring nothing is left to promise. -/
theorem banksSound_of_none (hk : ∀ j, (e.context j).isOpen = false) (hb : ∀ n, (e.zones.bank n).bindings = 0) (ha : e.zones.apply = .idle) :
    e.BanksSound := by
  have hnone : ∀ p, e.openBound p = 0 := fun p => openBound_eq_zero_iff.mpr fun j hj => absurd hj (by rw [hk j]; exact nofun)
  refine banksSound_iff.mpr ⟨fun n => ?_, fun j hj => ?_, ?_⟩
  · rw [hb, hnone]
  · rw [hk j] at hj
    cases hj
  · unfold RetiringTrue
    rw [ha, hb]
    exact iff_of_false nofun (lt_irrefl 0)

/-! ## A stroke opened -/

theorem bindStroke_bank (d : Device) (n : BankName) :
    (d.bindStroke.zones.bank n).bindings = (d.zones.bank n).bindings + (decide (d.zones.active = n)).toNat ∧
      ∀ w, (d.bindStroke.zones.bank n).rulesOf w = (d.zones.bank n).rulesOf w := by
  refine ⟨?_, ZoneTable.rulesOf_setBank (b := { d.zones.activeBank with bindings := d.zones.activeBank.bindings + 1 }) rfl rfl n⟩
  unfold bindStroke
  dsimp only
  by_cases h : d.zones.active = n
  · rw [← h, ZoneTable.bank_setBank_same, decide_eq_true rfl]
    rfl
  · rw [ZoneTable.bank_setBank_ne _ _ (Ne.symm h), decide_eq_false h]
    rfl

/-- An open leaves the exchange alone (R66). -/
theorem bindStroke_exchange (d : Device) :
    d.bindStroke.zones.active = d.zones.active ∧ d.bindStroke.zones.generation = d.zones.generation ∧
      d.bindStroke.zones.apply = d.zones.apply :=
  ⟨ZoneTable.setBank_active _ _ _, ZoneTable.setBank_generation _ _ _, ZoneTable.setBank_apply _ _ _⟩

/-- A stroke opened in a slot without one is counted by the active bank, to which it is bound (R67). -/
theorem openStroke_banksSound (h : d.BanksSound) (hc : (d.context i).isOpen = false) (q : OpenRequest) : (d.openStroke i q).BanksSound := by
  obtain ⟨hcounts, hbound, hretiring⟩ := banksSound_iff.mp h
  obtain ⟨-, -, -, -, -, hzones⟩ := openStroke_rest i q d
  obtain ⟨hactive, hgeneration, happly⟩ := bindStroke_exchange d
  have hothers := (openStroke_within i q d).1
  have hcontext := openStroke_context_same i q d
  refine banksSound_iff.mpr ⟨fun n => ?_, fun j hj => ?_, ?_⟩
  · have hcount := openBound_of_others hothers fun g => decide (d.zones.bankOfGeneration g = n)
    have hnew : d.zones.bankOfGeneration (d.openedContext i q).generation = d.zones.active := if_pos rfl
    have hopened : (d.openedContext i q).isOpen = true := rfl
    rw [hcontext, hnew, hc, hopened] at hcount
    rw [hzones, (bindStroke_bank d n).1, hcounts n]
    simp only [ZoneTable.bankOfGeneration_congr hactive hgeneration]
    simpa using hcount.symm
  · rw [hzones, hgeneration, happly]
    by_cases hji : j = i
    · subst hji
      rw [hcontext]
      exact .inl rfl
    · obtain ⟨-, -, hj', -⟩ := hothers j hji
      rw [hj'] at hj ⊢
      exact hbound j hj
  · have hne : d.zones.active ≠ d.zones.other := (otherBank_ne _).symm
    unfold RetiringTrue ZoneTable.other at *
    rw [hzones, happly, hactive, (bindStroke_bank d _).1, decide_eq_false hne]
    exact hretiring

theorem openStroke_permitsSound {q : OpenRequest} (h : d.PermitsSound) (ha : d.Admits i q.zone) : (d.openStroke i q).PermitsSound := by
  obtain ⟨-, -, -, -, -, hzones⟩ := openStroke_rest i q d
  obtain ⟨hactive, hgeneration, -⟩ := bindStroke_exchange d
  have hothers := (openStroke_within i q d).1
  have hcontext := openStroke_context_same i q d
  refine permitsSound_of_rules h fun j hj => ?_
  by_cases hji : j = i
  · subst hji
    right
    have hrules : (d.openStroke j q).boundRules j = d.zones.activeBank.rulesOf q.zone := by
      unfold boundRules
      rw [hzones, ZoneTable.bankOfGeneration_congr hactive hgeneration, hcontext, (bindStroke_bank d _).2]
      exact congrArg (fun n => (d.zones.bank n).rulesOf q.zone) (if_pos rfl)
    rw [hcontext, hrules]
    exact ⟨ha.1, ha.2, rfl, rfl⟩
  · left
    obtain ⟨-, -, hj', -⟩ := hothers j hji
    rw [hj'] at hj
    refine ⟨hj, by rw [hj'], boundRules_congr ?_ ?_ (by rw [hj']) fun w => ?_⟩ <;> rw [hzones]
    · exact hactive
    · exact hgeneration
    · exact (bindStroke_bank d _).2 w

end Device

end Sys2Proof.Machine
end

section
/-! SUPPORT. A stroke closed: the count of its bank, and the end of the retiring that it ends (R67, R71). -/

namespace Sys2Proof.Machine

open Device

namespace Device

variable {d e : Device} {i : Slot}

/-! ## A stroke closed -/

theorem closeStroke_exchange (i : Slot) (reason : CloseReason) (time : Word32) (d : Device) :
    (d.closeStroke i reason time).zones.active = d.zones.active ∧ (d.closeStroke i reason time).zones.generation = d.zones.generation := by
  obtain ⟨-, -, -, -, -, -, hactive, hgeneration, -⟩ := closeStroke_within i reason time d
  exact ⟨hactive, hgeneration⟩

/-- The strokes left by a close are those that were open in the other slots. -/
theorem closeStroke_left {reason : CloseReason} {time : Word32} {j : Slot} (hj : ((d.closeStroke i reason time).context j).isOpen = true) :
    (d.context j).isOpen = true ∧ (d.closeStroke i reason time).context j = d.context j := by
  have hji : j ≠ i := fun hji => by
    rw [hji, closeStroke_isOpen] at hj
    cases hj
  obtain ⟨-, -, hcontext, -⟩ := (closeStroke_within i reason time d).1 j hji
  exact ⟨hcontext ▸ hj, hcontext⟩

/-- A stroke closed is one less of its bank's. -/
theorem closeStroke_openBound (ho : (d.context i).isOpen = true) (hc : d.CountsTrue) (reason : CloseReason) (time : Word32) (n : BankName) :
    ((d.closeStroke i reason time).openBound fun g => (d.closeStroke i reason time).zones.bankOfGeneration g = n) +
        (decide (d.zones.bankOfGeneration (d.context i).generation = n)).toNat =
      (d.zones.bank n).bindings := by
  obtain ⟨hactive, hgeneration⟩ := closeStroke_exchange i reason time d
  have hcount := openBound_of_others (closeStroke_within i reason time d).1 fun g => decide (d.zones.bankOfGeneration g = n)
  rw [closeStroke_isOpen, ho, Bool.true_and, Bool.false_and, Bool.toNat_false, Nat.add_zero] at hcount
  simp only [ZoneTable.bankOfGeneration_congr hactive hgeneration]
  rw [hcount, hc n]

/-- The last stroke of a retiring bank closed: the bank is a copy of the active one, and no stroke is bound to it (R71). -/
theorem closeStroke_banksSound_of_last {reason : CloseReason} {time : Word32} (h : d.BanksSound) (ho : (d.context i).isOpen = true)
    (hn : d.zones.bankOfGeneration (d.context i).generation = d.zones.other) (hlast : (d.zones.bank d.zones.other).bindings = 1)
    (hz : (d.closeStroke i reason time).zones = d.zones.retired) : (d.closeStroke i reason time).BanksSound := by
  obtain ⟨hcounts, -⟩ := banksSound_iff.mp h
  obtain ⟨hactive, hgeneration⟩ := closeStroke_exchange i reason time d
  have hcount := closeStroke_openBound ho hcounts reason time
  have hcopy : (d.zones.retired.bank d.zones.other).bindings = 0 := by
    rw [ZoneTable.retired_bank, ZoneTable.bank_setBank_same]
    rfl
  have hnone := hcount d.zones.other
  rw [hn, hlast, decide_eq_true rfl, Bool.toNat_true, Nat.add_eq_right] at hnone
  refine banksSound_iff.mpr ⟨fun n => ?_, fun j hj => ?_, ?_⟩
  · rcases BankName.eq_active_or_other d.zones n with hn' | hn'
    · have hne : d.zones.other ≠ n := by
        rw [hn']
        exact otherBank_ne _
      have hkept := hcount n
      rw [hn, decide_eq_false hne, Bool.toNat_false, Nat.add_zero] at hkept
      rw [hkept, hz, ZoneTable.retired_bank, ZoneTable.bank_setBank_ne _ _ hne.symm]
    · rw [hn', hnone, hz, hcopy]
  · have hbank := openBound_eq_zero_iff.mp hnone j hj
    rw [ZoneTable.bankOfGeneration_congr hactive hgeneration, decide_eq_false_iff_not, ZoneTable.bankOfGeneration_eq_other_iff,
      not_not] at hbank
    rw [hgeneration]
    exact .inl hbank
  · have hother : d.zones.retired.other = d.zones.other := congrArg otherBank (ZoneTable.setBank_active _ _ _)
    unfold RetiringTrue
    rw [hz, hother, hcopy]
    exact iff_of_false nofun (lt_irrefl 0)

/-- A stroke closed otherwise lowers its bank's count, and a retiring bank has strokes left (R67, R70). -/
theorem closeStroke_banksSound_of_not_last {reason : CloseReason} {time : Word32} (h : d.BanksSound) (ho : (d.context i).isOpen = true)
    {n : BankName} (hn : d.zones.bankOfGeneration (d.context i).generation = n)
    (hlast : ¬(d.zones.apply = .retiring ∧ n = d.zones.other ∧ (d.zones.bank n).bindings - 1 = 0))
    (hz : (d.closeStroke i reason time).zones = d.zones.setBank n { d.zones.bank n with bindings := (d.zones.bank n).bindings - 1 }) :
    (d.closeStroke i reason time).BanksSound := by
  obtain ⟨hcounts, hbound, hretiring⟩ := banksSound_iff.mp h
  obtain ⟨hactive, hgeneration⟩ := closeStroke_exchange i reason time d
  have hcount := closeStroke_openBound ho hcounts reason time
  have happly : (d.closeStroke i reason time).zones.apply = d.zones.apply := by rw [hz, ZoneTable.setBank_apply]
  refine banksSound_iff.mpr ⟨fun m => ?_, fun j hj => ?_, ?_⟩
  · have hbank : ((d.closeStroke i reason time).zones.bank m).bindings = (d.zones.bank m).bindings - (decide (n = m)).toNat := by
      rw [hz]
      by_cases hnm : n = m
      · rw [← hnm, ZoneTable.bank_setBank_same, decide_eq_true rfl]
        rfl
      · rw [ZoneTable.bank_setBank_ne _ _ (Ne.symm hnm), decide_eq_false hnm]
        rfl
    have hm := hcount m
    rw [hn] at hm
    rw [hbank, ← hm, Nat.add_sub_cancel]
  · obtain ⟨hopen, hcontext⟩ := closeStroke_left hj
    rw [hcontext, hgeneration, happly]
    exact hbound j hopen
  · unfold RetiringTrue ZoneTable.other at *
    rw [happly, hactive, hz]
    by_cases hother : n = otherBank d.zones.active
    · have hgen := (ZoneTable.bankOfGeneration_eq_other_iff _ _).mp (hn.trans hother)
      have hret := ((hbound i ho).resolve_left hgen).1
      rw [← hother, ZoneTable.bank_setBank_same]
      exact iff_of_true hret (Nat.pos_of_ne_zero fun k => hlast ⟨hret, hother, k⟩)
    · rw [ZoneTable.bank_setBank_ne _ _ (Ne.symm hother)]
      exact hretiring

theorem closeStroke_banksSound (h : d.BanksSound) (reason : CloseReason) (time : Word32) : (d.closeStroke i reason time).BanksSound := by
  cases ho : (d.context i).isOpen with
  | false =>
    rw [closeStroke_of_closed ho]
    exact h
  | true =>
    obtain ⟨-, -, -, -, hreleased⟩ := closeStroke_closed ho reason time
    by_cases hlast : d.zones.apply = .retiring ∧ d.zones.bankOfGeneration (d.context i).generation = d.zones.other ∧
        (d.zones.bank (d.zones.bankOfGeneration (d.context i).generation)).bindings - 1 = 0
    · rw [if_pos hlast] at hreleased
      obtain ⟨hret, hn, hleft⟩ := hlast
      have hpos := h.2.2.2.mp hret
      rw [hn] at hleft
      exact closeStroke_banksSound_of_last h ho hn (by omega) hreleased.1
    · rw [if_neg hlast] at hreleased
      exact closeStroke_banksSound_of_not_last h ho rfl hlast hreleased.1

/-- While a bank retires, a close has rewritten no rule. -/
theorem closeStroke_rules_of_retiring {reason : CloseReason} {time : Word32} (h : (d.closeStroke i reason time).zones.apply = .retiring)
    (n : BankName) (w : ZoneNo) : ((d.closeStroke i reason time).zones.bank n).rulesOf w = (d.zones.bank n).rulesOf w := by
  cases ho : (d.context i).isOpen with
  | false => rw [closeStroke_of_closed ho]
  | true =>
    obtain ⟨-, -, -, -, hreleased⟩ := closeStroke_closed ho reason time
    split at hreleased
    · rw [hreleased.1] at h
      cases h
    · rw [hreleased.1]
      refine ZoneTable.rulesOf_setBank ?_ ?_ n w <;> rfl

/-- What is in force has the rules that it had. -/
theorem rules_of_inForce (hz : e.zones.inForce = d.zones.inForce) (w : ZoneNo) :
    (e.zones.bank d.zones.active).rulesOf w = (d.zones.bank d.zones.active).rulesOf w := by
  obtain ⟨hactive, hz⟩ := Prod.mk.inj hz
  obtain ⟨hzones, harea⟩ := Prod.mk.inj (Prod.mk.inj hz).2
  have hrules := Bank.rulesOf_congr hzones harea w
  unfold ZoneTable.activeBank at hrules
  rw [hactive] at hrules
  exact hrules

/-- A stroke of the active bank keeps its rules through a close, and so does one of a bank that still retires. -/
theorem closeStroke_permitsSound (hb : d.BanksSound) (h : d.PermitsSound) (reason : CloseReason) (time : Word32) :
    (d.closeStroke i reason time).PermitsSound := by
  obtain ⟨-, hbound, -⟩ := banksSound_iff.mp (closeStroke_banksSound (i := i) hb reason time)
  obtain ⟨hactive, hgeneration⟩ := closeStroke_exchange i reason time d
  refine permitsSound_of_rules h fun j hj => .inl ?_
  obtain ⟨hopen, hcontext⟩ := closeStroke_left hj
  refine ⟨hopen, by rw [hcontext], boundRules_congr hactive hgeneration (by rw [hcontext]) fun w => ?_⟩
  rcases hbound j hj with hg | ⟨hret, -⟩
  · rw [hcontext, hgeneration] at hg
    rw [(ZoneTable.bankOfGeneration_eq_active_iff _ _).mpr hg]
    exact rules_of_inForce (closeStroke_steady i reason time d).2.2 w
  · exact closeStroke_rules_of_retiring hret _ w

end Device

end Sys2Proof.Machine
end

section
/-! Every step keeps the binding counts true and every open stroke permitted (R63, R64, R67, R70). -/

namespace Sys2Proof.Machine

open Device

/-! ## The banks exchanged and rewritten -/

theorem ZoneTable.applied_exchange (z : ZoneTable) : z.applied.active = z.other ∧ z.applied.generation = z.generation + 1 := by
  rw [applied_eq]
  split <;> exact ⟨rfl, rfl⟩

/-- The former staging bank comes into force as it was written (R69). -/
theorem ZoneTable.applied_bank_other (z : ZoneTable) : z.applied.bank z.other = z.bank z.other := by
  have hne : z.other ≠ z.active := otherBank_ne _
  rw [applied_eq]
  split
  · show (z.setBank z.active _).bank z.other = _
    exact bank_setBank_ne _ _ hne
  · rfl

/-- A former active bank with strokes retires as it stands, and one without becomes a copy (R69). -/
theorem ZoneTable.applied_bank_active (z : ZoneTable) :
    if z.activeBank.bindings = 0 then
      z.applied.apply = z.apply ∧
        z.applied.bank z.active = { z.bank z.other with blocked := Vector.replicate 17 0, bindings := 0 }
    else z.applied.apply = .retiring ∧ z.applied.bank z.active = z.activeBank := by
  rw [applied_eq]
  split
  · exact ⟨setBank_apply _ _ _, bank_setBank_same z z.active _⟩
  · exact ⟨rfl, rfl⟩

namespace Device

variable {d e : Device} {i : Slot}

/-- With no bank retiring every stroke is bound to the active bank, and the staging bank counts none. -/
theorem BanksSound.of_idle (h : d.BanksSound) (ha : d.zones.apply = .idle) :
    (∀ j, (d.context j).isOpen = true → (d.context j).generation = d.zones.generation) ∧ (d.zones.bank d.zones.other).bindings = 0 := by
  obtain ⟨-, hbound, hretiring⟩ := banksSound_iff.mp h
  have hidle : d.zones.apply ≠ .retiring := ha ▸ nofun
  exact ⟨fun j hj => (hbound j hj).resolve_right fun k => hidle k.1, Nat.eq_zero_of_not_pos fun k => hidle (hretiring.mpr k)⟩

/-- With a stroke open then, the active bank counts it. -/
theorem BanksSound.active_counts (h : d.BanksSound) (ha : d.zones.apply = .idle) {j : Slot} (hj : (d.context j).isOpen = true) :
    d.zones.activeBank.bindings ≠ 0 := by
  obtain ⟨hcounts, -⟩ := banksSound_iff.mp h
  have hgeneration := (h.of_idle ha).1 j hj
  intro hzero
  have hnone := openBound_eq_zero_iff.mp ((hcounts d.zones.active).symm.trans hzero) j hj
  rw [(ZoneTable.bankOfGeneration_eq_active_iff _ _).mpr hgeneration] at hnone
  simp at hnone

/-- The generation moves on, and leaves the strokes that were bound under it to the bank that retires (R66, R69). -/
theorem applied_bankOfGeneration (z : ZoneTable) : z.applied.bankOfGeneration z.generation = z.active := by
  obtain ⟨hactive, hgeneration⟩ := z.applied_exchange
  have hnew : z.generation ≠ z.generation + 1 := by bv_omega
  rw [ZoneTable.bankOfGeneration, hgeneration, if_neg hnew, ZoneTable.other, hactive]
  exact otherBank_otherBank _

/-- The banks exchanged: the strokes of the former active bank are those of the bank that retires. -/
theorem applied_banksSound (h : d.BanksSound) (ha : d.zones.apply = .idle) : BanksSound { d with zones := d.zones.applied } := by
  obtain ⟨hcounts, -⟩ := banksSound_iff.mp h
  obtain ⟨hgeneration, hstaging⟩ := h.of_idle ha
  obtain ⟨kactive, kgeneration⟩ := d.zones.applied_exchange
  have kother : d.zones.applied.other = d.zones.active := (congrArg otherBank kactive).trans (otherBank_otherBank _)
  have kformer := d.zones.applied_bank_active
  have hmoved : ∀ j, (d.context j).isOpen = true → d.zones.applied.bankOfGeneration (d.context j).generation = d.zones.active := fun j hj => by
    rw [hgeneration j hj, applied_bankOfGeneration]
  refine banksSound_iff.mpr ⟨fun n => ?_, fun j hj => ?_, ?_⟩
  · show (d.zones.applied.bank n).bindings = d.openBound fun g => d.zones.applied.bankOfGeneration g = n
    rcases BankName.eq_active_or_other d.zones n with rfl | rfl
    · have hkept : (d.zones.applied.bank d.zones.active).bindings = (d.zones.bank d.zones.active).bindings := by
        split at kformer
        · next hzero => exact (congrArg Bank.bindings kformer.2).trans hzero.symm
        · exact congrArg Bank.bindings kformer.2
      rw [hkept, hcounts]
      refine openBound_congr fun j hj => ?_
      rw [hmoved j hj, (ZoneTable.bankOfGeneration_eq_active_iff _ _).mpr (hgeneration j hj)]
    · rw [ZoneTable.applied_bank_other, hstaging]
      refine (openBound_eq_zero_iff.mpr fun j hj => ?_).symm
      rw [hmoved j hj]
      exact decide_eq_false (otherBank_ne _).symm
  · right
    rw [if_neg (h.active_counts ha hj)] at kformer
    refine ⟨kformer.1, ?_⟩
    show (d.context j).generation = d.zones.applied.generation - 1
    rw [hgeneration j hj, kgeneration, BitVec.add_sub_cancel]
  · show d.zones.applied.apply = .retiring ↔ 0 < (d.zones.applied.bank d.zones.applied.other).bindings
    rw [kother]
    split at kformer
    · rw [kformer.1, kformer.2, ha]
      exact iff_of_false nofun (lt_irrefl 0)
    · next hcounted =>
      rw [kformer.1, kformer.2]
      exact iff_of_true rfl (Nat.pos_of_ne_zero hcounted)

theorem applied_permitsSound (hb : d.BanksSound) (h : d.PermitsSound) (ha : d.zones.apply = .idle) :
    PermitsSound { d with zones := d.zones.applied } := by
  refine permitsSound_of_rules h fun j hj => .inl ⟨hj, rfl, ?_⟩
  have hgeneration := (hb.of_idle ha).1 j hj
  have kformer := d.zones.applied_bank_active
  rw [if_neg (hb.active_counts ha hj)] at kformer
  show (d.zones.applied.bank (d.zones.applied.bankOfGeneration (d.context j).generation)).rulesOf _ = _
  unfold boundRules
  rw [hgeneration, applied_bankOfGeneration, kformer.2, (ZoneTable.bankOfGeneration_eq_active_iff _ _).mpr rfl]
  rfl

/-- The staging bank rewritten with its count kept: no stroke is bound to it (R68). -/
theorem staged_banksSound {f : Bank → Bank} (h : d.BanksSound) (hf : ∀ b, (f b).bindings = b.bindings) :
    BanksSound { d with zones := d.zones.setBank d.zones.other (f (d.zones.bank d.zones.other)) } := by
  obtain ⟨hcounts, hbound, hretiring⟩ := banksSound_iff.mp h
  have hbindings : ∀ n, ((d.zones.setBank d.zones.other (f (d.zones.bank d.zones.other))).bank n).bindings = (d.zones.bank n).bindings := by
    intro n
    by_cases hn : n = d.zones.other
    · rw [hn, ZoneTable.bank_setBank_same, hf]
    · rw [ZoneTable.bank_setBank_ne _ _ hn]
  refine banksSound_iff.mpr ⟨fun n => ?_, fun j hj => ?_, ?_⟩
  · show ((d.zones.setBank _ _).bank n).bindings = d.openBound fun g => (d.zones.setBank _ _).bankOfGeneration g = n
    rw [hbindings, hcounts]
    simp only [ZoneTable.bankOfGeneration_congr (ZoneTable.setBank_active _ _ _) (ZoneTable.setBank_generation _ _ _)]
  · rw [ZoneTable.setBank_generation, ZoneTable.setBank_apply]
    exact hbound j hj
  · unfold RetiringTrue ZoneTable.other at *
    rw [hbindings, ZoneTable.setBank_apply, ZoneTable.setBank_active]
    exact hretiring

theorem staged_permitsSound {b : Bank} (hb : d.BanksSound) (h : d.PermitsSound) (ha : d.zones.apply = .idle) :
    PermitsSound { d with zones := d.zones.setBank d.zones.other b } := by
  refine permitsSound_of_rules h fun j hj => .inl ⟨hj, rfl, ?_⟩
  refine boundRules_congr (ZoneTable.setBank_active _ _ _) (ZoneTable.setBank_generation _ _ _) rfl fun w => ?_
  rw [(ZoneTable.bankOfGeneration_eq_active_iff _ _).mpr ((hb.of_idle ha).1 j hj)]
  exact rules_of_inForce (e := { d with zones := d.zones.setBank d.zones.other b }) (d.zones.inForce_setBank_other b) w

/-! ## Every operation -/

theorem restarted_context (d : Device) (j : Slot) : d.restarted.context j = StrokeContext.closed := Vector.getElem_replicate j.isLt

theorem restarted_bank (d : Device) (n : BankName) :
    (d.restarted.zones.bank n).bindings = 0 ∧ (d.restarted.zones.bank n).blocked = Vector.replicate 17 0 := by
  cases n <;> exact ⟨rfl, rfl⟩

theorem restarted_apply (d : Device) : d.restarted.zones.apply = .idle := by
  show (if d.zones.apply = .retiring then d.zones.completeRetiring else d.zones).apply = .idle
  split
  · rfl
  · next h => exact ApplyState.eq_idle h

theorem Move.banksSound {placed : Prop} (hp : placed) (m : Move placed d e) (h : d.BanksSound) : e.BanksSound := by
  cases m with
  | aside he => exact banksSound_of_ties (ties_of_ledger he) h
  | start hc _ => exact openStroke_banksSound h (hc hp) _
  | close i reason time => exact closeStroke_banksSound h reason time
  | stage _ _ hf => exact staged_banksSound h hf
  | apply _ ha => exact applied_banksSound h ha
  | lock => exact banksSound_of_ties rfl h
  | identify _ c b => exact banksSound_of_ties rfl h
  | restart =>
    exact banksSound_of_none (fun j => by rw [restarted_context]; rfl) (fun n => (restarted_bank d n).1) (restarted_apply d)

theorem Move.permitsSound {placed : Prop} (m : Move placed d e) (hb : d.BanksSound) (h : d.PermitsSound) : e.PermitsSound := by
  cases m with
  | aside he => exact permitsSound_of_ties (ties_of_ledger he) h
  | start _ ha => exact openStroke_permitsSound h ha
  | close i reason time => exact closeStroke_permitsSound hb h reason time
  | stage _ ha _ => exact staged_permitsSound hb h ha
  | apply _ ha => exact applied_permitsSound hb h ha
  | lock => exact permitsSound_of_ties rfl h
  | identify _ c b => exact permitsSound_of_ties rfl h
  | restart =>
    intro j hj
    rw [restarted_context] at hj
    cases hj

theorem Moves.banksSound {placed : Prop} (hp : placed) (m : Moves placed d e) (h : d.BanksSound) :
    e.BanksSound ∧ (d.PermitsSound → e.PermitsSound) := by
  induction m with
  | refl => exact ⟨h, id⟩
  | tail _ hm ih => exact ⟨hm.banksSound hp ih.1, fun k => hm.permitsSound ih.1 (ih.2 k)⟩

end Device

/-- Settles O56: a step is a hard reset or a chain of operations, and each of them keeps the counts true and the open strokes permitted. -/
theorem bankCountsStayTrue : Obligations.BankCountsStayTrue := by
  intro s t h hs hb
  unfold step at h
  split at h
  · cases h
    exact ⟨hb, id⟩
  · next i rest _ =>
    cases hi : isHardReset i with
    | false => exact (exec_moves (s := { s with pending := rest }) h hi).banksSound hs hb
    | true =>
      cases i with
      | hardReset v =>
        cases h
        obtain ⟨-, -, -, -, -, -, -, kbanks, kpermits, -⟩ := reset_sound
        show (hardResetDevice v).BanksSound ∧ (_ → (hardResetDevice v).PermitsSound)
        rw [hardResetDevice_eq]
        exact ⟨kbanks, fun _ => kpermits⟩
      | _ => cases hi

end Sys2Proof.Machine
end

section
/-! A decode finds the lowest enabled zone that contains the point (R61). -/

namespace Sys2Proof.Machine

theorem Zone.contains_iff (z : Zone) (x y : Word16) :
    z.contains x y = true ↔ z.enable = true ∧ z.xMin ≤ x ∧ x ≤ z.xMax ∧ z.yMin ≤ y ∧ y ≤ z.yMax := by
  simp [contains, and_assoc]

theorem castSucc_ne_openAreaNo (z : Fin 16) : z.castSucc ≠ openAreaNo := Fin.castSucc_ne_last z

/-- A decode gives the zone that the search in ascending order finds, and the open area where it finds none. -/
theorem Bank.decode_cases (b : Bank) (x y : Word16) :
    (∃ z, (List.finRange 16).find? (fun i => (b.zones[i]).contains x y) = some z ∧ b.decode x y = z.castSucc) ∨
      (List.finRange 16).find? (fun i => (b.zones[i]).contains x y) = none ∧ b.decode x y = openAreaNo := by
  unfold decode
  cases h : (List.finRange 16).find? fun i => (b.zones[i]).contains x y with
  | some z => exact .inl ⟨z, rfl, rfl⟩
  | none => exact .inr ⟨rfl, rfl⟩

/-- Settles O25, by the end of the search. -/
theorem decodeFindsLowestZone : Obligations.DecodeFindsLowestZone := by
  intro b x y z holds
  have hholds : ∀ w, (b.zones[w]).contains x y = true ↔ holds w := fun w => (b.zones[w]).contains_iff x y
  have hfound : ∀ w, (List.finRange 16).find? (fun i => (b.zones[i]).contains x y) = some w ↔ holds w ∧ ∀ v < w, ¬holds v := fun w => by
    simp only [find_finRange_iff, hholds]
  have hnone : (List.finRange 16).find? (fun i => (b.zones[i]).contains x y) = none ↔ ∀ w, ¬holds w := by
    simp only [List.find?_eq_none, List.mem_finRange, true_imp_iff, hholds]
  rw [← hfound, ← hnone]
  rcases b.decode_cases x y with ⟨w, hw, hdecode⟩ | ⟨hw, hdecode⟩
  · rw [hw, hdecode, Option.some_inj, Fin.castSucc_inj, eq_comm]
    exact ⟨Iff.rfl, iff_of_false (castSucc_ne_openAreaNo w) nofun⟩
  · rw [hw, hdecode]
    exact ⟨iff_of_false (castSucc_ne_openAreaNo z).symm nofun, iff_of_true rfl rfl⟩

end Sys2Proof.Machine
end

section
/-! The commands that set one thing (R74, R133, R134, R144, R145, R172, R177). -/

namespace Sys2Proof.Machine

open Device

variable {d : Device}

theorem kindOf_kindNo (k : NoticeKind) : kindOf (BitVec.ofNat 4 (kindNo k).val) = some k := by cases k <;> rfl

/-- The line judged with a threshold: a pulse runs on, and otherwise the line follows the condition (R175 to R177). -/
theorem NoticeQueue.judged_of_threshold (q : NoticeQueue) (level : BitVec 3) :
    judged { q with threshold := level } =
      { q with
        threshold := level
        line := if q.line = .pulsing then .pulsing else if ∃ e ∈ q.entries, level ≤ e.level then .asserted else .released } := by
  have hcondition : condition { q with threshold := level } = true ↔ ∃ e ∈ q.entries, level ≤ e.level := by simp [condition]
  unfold judged
  split
  · next h =>
    rw [if_pos h]
    exact congrArg (fun l => { q with threshold := level, line := l }) h
  · next h =>
    rw [if_neg h]
    simp only [hcondition]

theorem runWriteIdentity_of_unwritten (tag c : Word16) (b : Byte) (h : d.framer.written = false) :
    runWriteIdentity tag c b d =
      Device.reply tag 0x50 .done (bytes16 c ++ [b]) { d with framer := { d.framer with classroom := c, board := b, written := true } } :=
  if_neg (Bool.eq_false_iff.mp h)

/-- Sharing starts with a period at cycle position 0 (R134, R142). -/
theorem runShareEnable_of_disabled (tag : Word16) (hs : d.framer.state = .disabled) (hw : d.framer.written = true) :
    runShareEnable tag d =
      Device.reply tag 0x51 .done [1]
        { d with
          framer :=
            { d.framer with
              state := .enabled, pendingFlush := false, cycle := 0,
              timer := some (d.framer.period.toNat + (if 0 < d.framer.fine then 1 else 0)) } } := by
  unfold runShareEnable
  rw [hs, if_pos hw]
  rfl

theorem runShareEnable_of_enabled (tag : Word16) (hs : d.framer.state = .enabled) : runShareEnable tag d = d.reply tag 0x51 .done [1] := by
  unfold runShareEnable
  rw [hs]
  rfl

theorem runFlush_of_not_enabled (tag : Word16) (hs : d.framer.state ≠ .enabled) : runFlush tag d = d.reply tag 0x54 .done [0, 0] := by
  unfold runFlush
  split
  · next h => exact absurd h hs
  · rfl

theorem runSetLevel_of_kind (tag : Word16) (k : NoticeKind) (level : BitVec 3) :
    runSetLevel tag (BitVec.ofNat 4 (kindNo k).val) level d =
      Device.reply tag 0x62 .done [BitVec.ofNat 8 (kindNo k).val, level.setWidth 8, (d.notices.levels[kindNo k]).setWidth 8]
        { d with notices := { d.notices with levels := d.notices.levels.set (kindNo k) level } } := by
  unfold runSetLevel
  rw [kindOf_kindNo]
  rfl

theorem runSetLineThreshold_of_ne (tag : Word16) {level : BitVec 3} (h : level ≠ 0) :
    runSetLineThreshold tag level d =
      Device.reply tag 0x63 .done
        [level.setWidth 8, BitVec.ofNat 8 (lineNo (NoticeQueue.judged { d.notices with threshold := level }).line)]
        { d with notices := NoticeQueue.judged { d.notices with threshold := level } } :=
  if_neg h

/-- Settles O42, command by command. -/
theorem settingCommandsSetOneThing : Obligations.SettingCommandsSetOneThing := by
  intro s tag classroom board period fine k level f q p line hr
  refine ⟨fun hw => answers_of_run rfl hr (runWriteIdentity_of_unwritten tag classroom board hw),
    fun hs hw => answers_of_run rfl hr (runShareEnable_of_disabled tag hs hw),
    fun hs => answers_of_run rfl hr (runShareEnable_of_enabled tag hs), answers_of_run rfl hr rfl,
    fun hs => answers_of_run rfl hr (runFlush_of_not_enabled tag hs), answers_of_run rfl hr rfl,
    answers_of_run rfl hr (runSetLevel_of_kind tag k level), fun hl => answers_of_run rfl hr ?_⟩
  have hthreshold := runSetLineThreshold_of_ne (d := s.dev) tag hl
  rw [NoticeQueue.judged_of_threshold] at hthreshold
  exact hthreshold

end Sys2Proof.Machine
end

section
/-! Zone writes and the exchange of the banks (R68, R69, R75 to R77). -/

namespace Sys2Proof.Machine

open Device

variable {d : Device}

theorem rectZoneOf_ofNat (k : Fin 16) : rectZoneOf (BitVec.ofNat 5 k.val) = some k := by
  have hk : (BitVec.ofNat 5 k.val).toNat = k.val := ofNat_toNat_of_lt (by omega)
  simp only [rectZoneOf, hk, k.isLt, dite_true]

/-- A zone write with the layout unlocked and no bank retiring changes the staging bank (R68). -/
theorem writeStaging_of_idle (tag : Word16) (code : Byte) (f : Bank → Bank) (hl : d.zones.locked = false) (ha : d.zones.apply = .idle) :
    d.writeStaging tag code f =
      Device.reply tag code .done [BitVec.ofNat 8 (bankNo d.zones.other)]
        { d with zones := d.zones.setBank d.zones.other (f (d.zones.bank d.zones.other)) } := by
  rw [writeStaging, if_neg (Bool.eq_false_iff.mp hl), if_neg (by rw [ha]; exact nofun)]
  rfl

theorem runWriteZoneRect_ofNat (tag : Word16) (k : Fin 16) (xMin xMax yMin yMax : Word16) :
    runWriteZoneRect tag (BitVec.ofNat 5 k.val) xMin xMax yMin yMax d =
      d.writeStaging tag 0x30 fun b =>
        { b with zones := b.zones.set k { b.zones[k] with xMin := xMin, xMax := xMax, yMin := yMin, yMax := yMax } } := by
  rw [runWriteZoneRect, rectZoneOf_ofNat]

theorem runWriteZoneAttributes_ofNat (tag : Word16) (k : Fin 16) (on : Bool) (rules : ZoneRules) :
    runWriteZoneAttributes tag (BitVec.ofNat 5 k.val) on rules d =
      d.writeStaging tag 0x31 fun b => { b with zones := b.zones.set k { b.zones[k] with enable := on, rules := rules } } := by
  rw [runWriteZoneAttributes, rectZoneOf_ofNat]

/-- APPLY with the layout unlocked and no bank retiring exchanges the banks, and reports the generation and the state that it leaves (R69). -/
theorem runApply_of_idle (tag : Word16) (hl : d.zones.locked = false) (ha : d.zones.apply = .idle) :
    runApply tag d =
      Device.reply tag 0x34 .done [d.zones.generation + 1, if d.zones.activeBank.bindings = 0 then 0 else 1]
        { d with zones := d.zones.applied } := by
  have hstate : BitVec.ofNat 8 (applyNo d.zones.applied.apply) = if d.zones.activeBank.bindings = 0 then 0 else 1 := by
    have hformer := d.zones.applied_bank_active
    split at hformer
    · next h => rw [hformer.1, ha, if_pos h]; rfl
    · next h => rw [hformer.1, if_neg h]; rfl
  rw [← hstate, ← d.zones.applied_exchange.2, runApply, if_neg (Bool.eq_false_iff.mp hl), if_neg (by rw [ha]; exact nofun)]
  rfl

/-- Settles O40: the zone writes by the change of the staging bank, APPLY by the banks that the exchange leaves. -/
theorem applyExchangesBanks : Obligations.ApplyExchangesBanks := by
  intro s tag k xMin xMax yMin yMax on rules z n b hr hl ha
  obtain ⟨hactive, hgeneration⟩ := z.applied_exchange
  have hformer := z.applied_bank_active
  have hinForce : z.applied.activeBank = b := by
    rw [ZoneTable.activeBank, hactive]
    exact z.applied_bank_other
  have hwrite := fun code f => writeStaging_of_idle (d := s.dev) tag code f hl ha
  refine ⟨otherBank_ne _, answers_of_run rfl hr ((runWriteZoneRect_ofNat tag k xMin xMax yMin yMax).trans (hwrite 0x30 _)),
    answers_of_run rfl hr ((runWriteZoneAttributes_ofNat tag k on rules).trans (hwrite 0x31 _)),
    answers_of_run rfl hr (hwrite 0x32 fun b => { b with openArea := rules }), _, answers_of_run rfl hr (runApply_of_idle tag hl ha), hactive,
    hgeneration, z.applied_locked.trans hl, hinForce, fun h0 => ?_, fun h0 => ?_, rfl, rfl, rfl⟩
  · rw [if_pos h0] at hformer
    exact ⟨hformer.1.trans ha, hformer.2⟩
  · rw [if_neg h0] at hformer
    exact hformer

end Sys2Proof.Machine
end

section
/-! RESTART (R80, R131, R165, R166, Figure 9-6). -/

namespace Sys2Proof.Machine

open Device

/-- The bank that is not in force at RESTART holds the layout in force where a retiring ends with it, and its own else (R80). -/
theorem ZoneTable.restarted_staging (z : ZoneTable) :
    ((z.restarted.bank z.restarted.other).zones, (z.restarted.bank z.restarted.other).openArea) =
      if z.apply = .retiring then z.layout else ((z.bank z.other).zones, (z.bank z.other).openArea) := by
  obtain ⟨_, _, n, _, a, _⟩ := z
  cases n <;> cases a <;> rfl

theorem FrameBuffer.restarted_eq (b : FrameBuffer) : b.restarted = if b.isSending then b else .empty := by cases b <;> rfl

theorem EgressArbiter.restarted_inTransmission (a : EgressArbiter) : a.restarted.inTransmission = a.inTransmission := by
  unfold restarted
  split <;> rfl

/-- At RESTART a reply in transmission, and no other, stays in the reply queue (R166). -/
theorem EgressArbiter.restarted_replies_of_reply {a : EgressArbiter} {bytes : List Byte} (h : a.inTransmission = some (.reply bytes)) :
    a.restarted.replies = a.replies.take 1 := by
  unfold restarted
  rw [h]

theorem EgressArbiter.restarted_replies_of_no_reply {a : EgressArbiter} (h : ∀ bytes, a.inTransmission ≠ some (.reply bytes)) :
    a.restarted.replies = [] := by
  unfold restarted
  split
  · next bytes hr => exact absurd hr (h bytes)
  · rfl

theorem Device.openSlots_length (d : Device) : d.openSlots.length = allSlots.countP fun j => (d.context j).isOpen := List.countP_eq_length_filter.symm

/-- Settles O47, block by block. -/
theorem restartKeepsConfiguration : Obligations.RestartKeepsConfiguration := by
  intro s tag i b n d e
  obtain ⟨hactive, hz⟩ := Prod.mk.inj d.zones.restarted_inForce
  obtain ⟨hgeneration, hlayout⟩ := Prod.mk.inj hz
  obtain ⟨hunbound, hunblocked⟩ := restarted_bank d n
  refine ⟨fun hr => becomes_of_ready rfl hr, rfl, rfl, fun l => Vector.getElem_replicate l.isLt, rfl, restarted_slot i d, rfl,
    Vector.getElem_replicate i.isLt, Vector.getElem_replicate i.isLt, restarted_context d i, Vector.getElem_replicate i.isLt, rfl, hactive,
    hgeneration, d.zones.restarted_locked, restarted_apply d, hlayout, hunblocked, hunbound, d.zones.restarted_staging, rfl, rfl, ?_,
    d.arbiter.restarted_inTransmission, ?_, rfl, rfl⟩
  · rw [← FrameBuffer.restarted_eq]
    exact Vector.getElem_map ..
  · show d.arbiter.restarted.replies ++ _ = _
    rw [← openSlots_length]
    split
    · next hreply =>
      rw [EgressArbiter.restarted_replies_of_reply hreply]
      rfl
    · next hother =>
      rw [EgressArbiter.restarted_replies_of_no_reply hother]
      rfl

end Sys2Proof.Machine
end

section
/-! The stroke ids (R83): what an advance does, which candidate the search takes, and which ids are in use. -/

namespace Sys2Proof.Machine

/-! ## Advances -/

theorem nextId_toNat (c : Word16) : (nextId c).toNat = c.toNat % 65535 + 1 := by
  unfold nextId
  split
  · next h =>
    rw [h]
    rfl
  · next h =>
    bv_omega

/-- No advance gives 0. -/
theorem nextId_ne_zero (c : Word16) : nextId c ≠ 0 := fun h => by
  have := nextId_toNat c
  rw [h] at this
  exact absurd this (Nat.succ_ne_zero _).symm

/-- The candidates after `c` are the 65,535 nonzero ids in their cycle. -/
theorem iterate_nextId_toNat {c : Word16} (h : c ≠ 0) (m : Nat) : (nextId^[m] c).toNat = (c.toNat - 1 + m) % 65535 + 1 := by
  have hpos : c.toNat ≠ 0 := fun k => h (BitVec.eq_of_toNat_eq k)
  have hlt := c.isLt
  induction m with
  | zero =>
    show c.toNat = _
    omega
  | succ m ih =>
    rw [Function.iterate_succ_apply', nextId_toNat, ih]
    omega

theorem iterate_nextId_ne_zero {c : Word16} (h : c ≠ 0) (m : Nat) : nextId^[m] c ≠ 0 := by
  cases m with
  | zero => exact h
  | succ m =>
    rw [Function.iterate_succ_apply']
    exact nextId_ne_zero _

/-- Fewer advances than the cycle is long give different candidates. -/
theorem iterate_nextId_injOn {c : Word16} (h : c ≠ 0) {n : Nat} (hn : n ≤ 65535) :
    Set.InjOn (fun m => nextId^[m] c) (Finset.range n : Set Nat) := by
  intro m hm k hk he
  have he := congrArg BitVec.toNat he
  simp only [iterate_nextId_toNat h, Finset.coe_range, Set.mem_Iio] at he hm hk
  omega

/-! ## The search -/

/-- The search ends at the first candidate that is not in use, or after `n` advances; every candidate before it is in use. -/
theorem freeId_cases (used : List Word16) (n : Nat) (c : Word16) :
    ∃ k ≤ n, freeId used n c = nextId^[k] c ∧ (∀ m < k, nextId^[m] c ∈ used) ∧ (freeId used n c ∈ used → k = n) := by
  induction n generalizing c with
  | zero => exact ⟨0, Nat.le_refl 0, rfl, nofun, fun _ => rfl⟩
  | succ n ih =>
    unfold freeId
    split
    · next hc =>
      obtain ⟨k, hk, hfree, hused, hend⟩ := ih (nextId c)
      refine ⟨k + 1, Nat.succ_le_succ hk, hfree, fun m hm => ?_, fun h => congrArg Nat.succ (hend h)⟩
      cases m with
      | zero => exact hc
      | succ m => exact hused m (Nat.lt_of_succ_lt_succ hm)
    · next hc => exact ⟨0, Nat.zero_le _, rfl, nofun, fun h => absurd h hc⟩

/-- With at most `n` ids in use, `n` advances reach a free one: the `n + 1` candidates are different. -/
theorem freeId_notMem {used : List Word16} {n : Nat} {c : Word16} (hc : c ≠ 0) (hl : used.length ≤ n) (hn : n < 65535) :
    freeId used n c ∉ used := by
  intro hmem
  obtain ⟨k, -, hfree, hused, hend⟩ := freeId_cases used n c
  obtain rfl := hend hmem
  have hall : (Finset.range (k + 1)).image (fun m => nextId^[m] c) ⊆ used.toFinset := by
    intro x hx
    obtain ⟨m, hm, rfl⟩ := Finset.mem_image.mp hx
    rcases Nat.lt_succ_iff_lt_or_eq.mp (Finset.mem_range.mp hm) with hlt | rfl
    · exact List.mem_toFinset.mpr (hused m hlt)
    · exact List.mem_toFinset.mpr (hfree ▸ hmem)
  have hcard := Finset.card_le_card hall
  rw [Finset.card_image_of_injOn (iterate_nextId_injOn hc hn), Finset.card_range] at hcard
  exact absurd (hcard.trans (used.toFinset_card_le.trans hl)) (Nat.not_succ_le_self k)

namespace Device

variable {d : Device} {i : Slot}

/-! ## The ids in use -/

theorem mem_usedIds {x : Word16} : x ∈ d.usedIds ↔ ∃ k, (d.context k).isOpen = true ∧ (d.context k).id = x := by
  simp [usedIds, openSlots, mem_allSlots]

/-- Beside a slot without a stroke at most 11 strokes are open. -/
theorem usedIds_length (h : (d.context i).isOpen = false) : d.usedIds.length ≤ 11 := by
  have hlt : d.openSlots.length < allSlots.length :=
    List.length_filter_lt_length_iff_exists.mpr ⟨i, mem_allSlots i, Bool.eq_false_iff.mp h⟩
  rw [usedIds, List.length_map]
  exact Nat.le_of_lt_succ hlt

/-- The id of a new stroke is one that no open stroke carries. -/
theorem newId_free (hc : d.strokes.candidate ≠ 0) (hi : (d.context i).isOpen = false) (k : Slot) (hk : (d.context k).isOpen = true) :
    (d.context k).id ≠ d.newId := fun h =>
  freeId_notMem hc (usedIds_length hi) (by decide) (mem_usedIds.mpr ⟨k, hk, h⟩)

/-- It is the first such candidate. -/
theorem newId_first (d : Device) :
    ∃ n ≤ 11, d.newId = nextId^[n] d.strokes.candidate ∧
      ∀ m < n, ∃ k, (d.context k).isOpen = true ∧ (d.context k).id = nextId^[m] d.strokes.candidate := by
  obtain ⟨n, hn, hfree, hused, -⟩ := freeId_cases d.usedIds 11 d.strokes.candidate
  exact ⟨n, hn, hfree, fun m hm => mem_usedIds.mp (hused m hm)⟩

theorem newId_ne_zero (h : d.strokes.candidate ≠ 0) : d.newId ≠ 0 := by
  obtain ⟨n, -, hn, -⟩ := d.newId_first
  rw [hn]
  exact iterate_nextId_ne_zero h n

/-! ## A stroke opened, and a stroke closed -/

/-- After an open a slot holds the new stroke, or the stroke that it had. -/
theorem openStroke_context_cases (i j : Slot) (q : OpenRequest) (d : Device) :
    (j = i ∧ (d.openStroke i q).context j = d.openedContext i q) ∨ (j ≠ i ∧ (d.openStroke i q).context j = d.context j) := by
  by_cases hj : j = i
  · subst hj
    exact .inl ⟨rfl, openStroke_context_same j q d⟩
  · obtain ⟨-, -, hcontext, -⟩ := (openStroke_within i q d).1 j hj
    exact .inr ⟨hj, hcontext⟩

/-- An open in a slot without a stroke keeps the ids distinct and nonzero. -/
theorem openStroke_idsSound (h : d.IdsSound) (hi : (d.context i).isOpen = false) (q : OpenRequest) : (d.openStroke i q).IdsSound := by
  obtain ⟨hcandidate, hnonzero, hdistinct⟩ := h
  obtain ⟨-, -, -, -, hnext, -⟩ := openStroke_rest i q d
  have hfree := newId_free hcandidate hi
  refine ⟨hnext ▸ nextId_ne_zero _, fun j hj => ?_, fun j k hj hk he => ?_⟩
  · rcases openStroke_context_cases i j q d with ⟨-, hc⟩ | ⟨-, hc⟩ <;> rw [hc] at hj ⊢
    · exact newId_ne_zero hcandidate
    · exact hnonzero j hj
  · rcases openStroke_context_cases i j q d with ⟨hji, hc⟩ | ⟨-, hc⟩ <;>
      rcases openStroke_context_cases i k q d with ⟨hki, hd⟩ | ⟨-, hd⟩ <;>
      rw [hc, hd] at he <;> rw [hc] at hj <;> rw [hd] at hk
    · exact hji.trans hki.symm
    · exact absurd he.symm (hfree k hk)
    · exact absurd he (hfree j hj)
    · exact hdistinct j k hj hk he

/-- So does a close. -/
theorem closeStroke_idsSound (h : d.IdsSound) (reason : CloseReason) (time : Word32) : (d.closeStroke i reason time).IdsSound := by
  obtain ⟨hcandidate, hnonzero, hdistinct⟩ := h
  obtain ⟨-, -, -, hsame⟩ := closeStroke_rest i reason time d
  refine ⟨hsame ▸ hcandidate, fun j hj => ?_, fun j k hj hk he => ?_⟩
  · obtain ⟨ho, hc⟩ := closeStroke_left hj
    rw [hc]
    exact hnonzero j ho
  · obtain ⟨hoj, hcj⟩ := closeStroke_left hj
    obtain ⟨hok, hck⟩ := closeStroke_left hk
    rw [hcj, hck] at he
    exact hdistinct j k hoj hok he

end Device

open Device

/-- Settles O26: twelve candidates are twelve ids, and at most eleven of them are in use. -/
theorem newStrokeIdIsFree : Obligations.NewStrokeIdIsFree := by
  intro d i j q reason time
  obtain ⟨-, -, -, hclosed⟩ := closeStroke_rest j reason time d
  refine ⟨⟨rfl, fun c hc => if_neg hc⟩, fun h hi => ?_, hclosed, rfl, rfl, rfl⟩
  obtain ⟨hcandidate, -, -⟩ := id h
  obtain ⟨-, -, -, -, hnext, -⟩ := openStroke_rest i q d
  have hcontext := openStroke_context_same i q d
  exact ⟨newId_ne_zero hcandidate, newId_free hcandidate hi, d.newId_first, congrArg StrokeContext.id hcontext,
    congrArg StrokeContext.isOpen hcontext, hnext, openStroke_idsSound h hi q⟩

end Sys2Proof.Machine
end

section
/-! SUPPORT. The delivery records as pairs of a stroke's id and its slot, and what the router's operations do to them (R118). -/

namespace Sys2Proof.Machine

/-- What ties a delivery record to its stroke: the id and the slot. -/
def Delivery.bond (v : Delivery) : Word16 × Slot := (v.id, v.slot)

/-- The bonds of the delivery records, in their order. -/
def Router.bonds (r : Router) : List (Word16 × Slot) := r.deliveries.map Delivery.bond

theorem Router.mapDelivery_bonds (r : Router) (id : Word16) {f : Delivery → Delivery} (hf : ∀ v, (f v).bond = v.bond) :
    (r.mapDelivery id f).bonds = r.bonds := by
  unfold bonds mapDelivery
  rw [List.map_map]
  refine List.map_congr_left fun v _ => ?_
  show (if v.id = id then f v else v).bond = v.bond
  split
  · exact hf v
  · rfl

theorem Router.offerOverlaySeg_bonds (s : SegRecord) (r : Router) : (r.offerOverlaySeg s).bonds = r.bonds := by
  unfold offerOverlaySeg
  split
  · rfl
  · split
    · exact mapDelivery_bonds _ _ fun _ => rfl
    · exact mapDelivery_bonds _ _ fun _ => rfl

namespace Device

variable {d e : Device}

/-- Both branches of a choice. -/
theorem ite_keeps {α : Type} {f : Device → α} {x : α} {a b : Device} {c : Prop} [Decidable c] (h : f a = x) (k : f b = x) :
    f (if c then a else b) = x := by
  split
  · exact h
  · exact k

theorem Framed.bonds (h : d.Framed e) : e.router.bonds = d.router.bonds := by
  rw [h.1]
  rfl

/-- An OPEN gets a delivery record of its own. -/
theorem routeOpen_bonds (o : OpenRecord) (st : Steering) (d : Device) :
    (d.routeOpen o st).router.bonds = d.router.bonds ++ [(o.id, o.slot)] := by
  unfold routeOpen
  extract_lets r oa oi sa si orf srf v d1 d2 d3
  have h1 : d1.router.bonds = d.router.bonds ++ [(o.id, o.slot)] := List.map_append
  have h3 : d3.router = d1.router :=
    ite_keeps (f := router) (c := srf = true) (ite_keeps (f := router) (c := orf = true) rfl rfl)
      (ite_keeps (f := router) (c := orf = true) rfl rfl)
  rw [← h1, ← h3]
  exact ite_keeps (f := fun e => e.router.bonds) (sixRecordTrigger_framed d3).bonds rfl

theorem offerShareSeg_bonds (i : Slot) (s : SegRecord) (d : Device) : (d.offerShareSeg i s).router.bonds = d.router.bonds :=
  ite_keeps (f := fun e => e.router.bonds) (sixRecordTrigger_framed { d with router := _ }).bonds
    (Router.mapDelivery_bonds _ _ fun _ => rfl)

theorem routeSeg_bonds (i : Slot) (s : SegRecord) (d : Device) : (d.routeSeg i s).router.bonds = d.router.bonds := by
  unfold routeSeg
  split
  · rfl
  · extract_lets d1
    have h1 : d1.router.bonds = d.router.bonds := ite_keeps (f := fun e => e.router.bonds) (d.router.offerOverlaySeg_bonds s) rfl
    rw [← h1]
    exact ite_keeps (f := fun e => e.router.bonds) (offerShareSeg_bonds i s d1) rfl

/-- A CLOSE ends the delivery record of its stroke. -/
theorem routeClose_bonds (id n : Word16) (reason : CloseReason) (gap : Bool) (time : Word16) (d : Device) :
    (d.routeClose id n reason gap time).router.bonds = d.router.bonds.filter fun b => b.1 ≠ id := by
  have hfilter : d.router.bonds.filter (fun b => decide (b.1 ≠ id)) =
      (d.router.deliveries.filter fun u => decide (u.id ≠ id)).map Delivery.bond := List.filter_map
  rw [hfilter]
  unfold routeClose
  extract_lets r
  split
  · next hnone =>
    have hall : d.router.deliveries.filter (fun u => decide (u.id ≠ id)) = d.router.deliveries :=
      List.filter_eq_self.mpr fun u hu => by simpa using List.find?_eq_none.mp hnone u hu
    rw [hall]
    rfl
  · exact ite_keeps (f := fun e => e.router.bonds) (sixRecordTrigger_framed { d with router := _ }).bonds rfl

theorem shareOffClose_bonds (d : Device) (i : Slot) : (d.shareOffClose i).router.bonds = d.router.bonds := by
  unfold shareOffClose
  extract_lets k
  split
  · rfl
  · exact ite_keeps (f := fun e => e.router.bonds) (Router.mapDelivery_bonds _ _ fun _ => rfl) rfl

/-! ## Strokes and their delivery records -/

/-- The delivery records belong to the open strokes, one each, said of their bonds. -/
theorem deliveriesSound_iff :
    d.DeliveriesSound ↔
      d.router.bonds.Pairwise (fun b c => b.1 ≠ c.1) ∧
        ∀ x i, (x, i) ∈ d.router.bonds ↔ (d.context i).isOpen = true ∧ (d.context i).id = x := by
  have hmem : ∀ x i, (x, i) ∈ d.router.bonds ↔ ∃ v ∈ d.router.deliveries, v.id = x ∧ v.slot = i := fun x i => by
    simp [Router.bonds, Delivery.bond]
  unfold DeliveriesSound
  simp only [hmem]
  simp only [Router.bonds, List.pairwise_map, Delivery.bond]
  refine and_congr_right fun _ => ⟨fun ⟨howned, hserved⟩ x i => ⟨?_, ?_⟩, fun h => ⟨fun v hv => ?_, fun i hi => ?_⟩⟩
  · rintro ⟨v, hv, rfl, rfl⟩
    exact howned v hv
  · rintro ⟨ho, rfl⟩
    exact hserved i ho
  · exact (h v.id v.slot).mp ⟨v, hv, rfl, rfl⟩
  · exact (h (d.context i).id i).mpr ⟨hi, rfl⟩

theorem openStroke_bonds (i : Slot) (q : OpenRequest) (d : Device) :
    (d.openStroke i q).router.bonds = d.router.bonds ++ [(d.newId, i)] :=
  routeOpen_bonds _ _ (d.beforeRouting i q)

theorem closeStroke_bonds {i : Slot} (h : (d.context i).isOpen = true) (reason : CloseReason) (time : Word32) :
    (d.closeStroke i reason time).router.bonds = d.router.bonds.filter fun b => b.1 ≠ (d.context i).id := by
  obtain ⟨-, -, hrouter, -⟩ := closeStroke_closed h reason time
  rw [hrouter]
  exact routeClose_bonds _ _ _ _ _ d

/-- A stroke opened in a slot without one has the one delivery record that comes in. -/
theorem openStroke_deliveriesSound {i : Slot} (hs : d.IdsSound) (h : d.DeliveriesSound) (hi : (d.context i).isOpen = false)
    (q : OpenRequest) : (d.openStroke i q).DeliveriesSound := by
  obtain ⟨hone, hbond⟩ := deliveriesSound_iff.mp h
  obtain ⟨hcandidate, -, -⟩ := hs
  have hfree := newId_free hcandidate hi
  refine deliveriesSound_iff.mpr ?_
  rw [openStroke_bonds]
  refine ⟨List.pairwise_append.mpr ⟨hone, List.pairwise_singleton _ _, ?_⟩, fun x j => ?_⟩
  · rintro ⟨x, j⟩ hb c hc
    obtain ⟨ho, rfl⟩ := (hbond x j).mp hb
    rw [List.mem_singleton.mp hc]
    exact hfree j ho
  · rw [List.mem_append, List.mem_singleton, Prod.mk.injEq, hbond]
    rcases openStroke_context_cases i j q d with ⟨rfl, hc⟩ | ⟨hji, hc⟩ <;> rw [hc]
    · simp [hi, openedContext, eq_comm]
    · simp [hji]

/-- A stroke closed takes its delivery record along, and no other. -/
theorem closeStroke_deliveriesSound {i : Slot} (hs : d.IdsSound) (h : d.DeliveriesSound) (reason : CloseReason) (time : Word32) :
    (d.closeStroke i reason time).DeliveriesSound := by
  cases ho : (d.context i).isOpen with
  | false => rwa [closeStroke_of_closed ho]
  | true =>
    obtain ⟨hone, hbond⟩ := deliveriesSound_iff.mp h
    obtain ⟨-, -, hdistinct⟩ := hs
    refine deliveriesSound_iff.mpr ?_
    rw [closeStroke_bonds ho]
    refine ⟨hone.filter _, fun x j => ?_⟩
    rw [List.mem_filter, hbond, decide_eq_true_iff]
    by_cases hji : j = i
    · subst hji
      rw [closeStroke_isOpen]
      exact iff_of_false (fun ⟨⟨_, hx⟩, hne⟩ => hne hx.symm) nofun
    · obtain ⟨-, -, hcontext, -⟩ := (closeStroke_within i reason time d).1 j hji
      rw [hcontext]
      refine and_iff_left_of_imp ?_
      rintro ⟨hj, rfl⟩ he
      exact hji (hdistinct j i hj ho he)

end Device

end Sys2Proof.Machine
end

section
/-! SUPPORT. What a step does to strokes and their records, said once: `Device.inkPath` names the parts that hold them, `Device.InkMove` the
operations that write to these parts, and `step_inkMoves` says that every step is a chain of such operations. -/

namespace Sys2Proof.Machine

/-- Where strokes and their records are: the Stroke Assembler, the router and the Share Framer. -/
def Device.inkPath (d : Device) := (d.strokes, d.router, d.framer)

/-- The operations that write to the ink path; `aside` is all that leaves it alone. Where `placed` holds a stroke opens in a slot that has
none. -/
inductive Device.InkMove (placed : Prop) : Device → Device → Prop
  | aside {d e : Device} (h : e.inkPath = d.inkPath) : InkMove placed d e
  | reset (d : Device) (v : Bool) : InkMove placed d (hardResetDevice v)
  | restart (d : Device) : InkMove placed d d.restarted
  | start {d : Device} {i : Slot} (hc : placed → (d.context i).isOpen = false) (q : OpenRequest) : InkMove placed d (d.openStroke i q)
  | emit (d : Device) (i : Slot) (p : Point) (width : Byte) (stamp : Word32) : InkMove placed d (d.emitSeg i p width stamp)
  | close (d : Device) (i : Slot) (reason : CloseReason) (time : Word32) : InkMove placed d (d.closeStroke i reason time)
  | laneGap (d : Device) (l : Lane) : InkMove placed d (d.markLaneGap l)
  | identify {d : Device} (hw : d.framer.written = false) (c : Word16) (b : Byte) :
      InkMove placed d { d with framer := { d.framer with classroom := c, board := b, written := true } }
  | enable {d : Device} (hs : d.framer.state = .disabled) (hw : d.framer.written = true) :
      InkMove placed d { d with framer := ShareFramer.beginPeriod 0 { d.framer with state := .enabled, pendingFlush := false } }
  | disable {d : Device} (hs : d.framer.state = .enabled) : InkMove placed d d.disableShare
  | pacing (d : Device) (p : Byte) (fine : BitVec 4) :
      InkMove placed d { d with framer := { d.framer with period := atLeastOne p, fine := fine } }
  | flush {d : Device} (hs : d.framer.state = .enabled) (c : BitVec 4) :
      InkMove placed d { d.flushTrigger with framer := d.flushTrigger.framer.beginPeriod c }
  | tick (d : Device) : InkMove placed d d.tick
  | clearItem (d : Device) (g : BitVec 3) (n : Nat) : InkMove placed d (d.clearItem g n)
  | clear (d : Device) : InkMove placed d d.clearCounters
  | overlayBegin (d : Device) (ready : Bool) : InkMove placed d (d.overlayBegins ready)
  | overlayEnd (d : Device) : InkMove placed d d.overlayCompletes
  | egressBegin (d : Device) (ready : Bool) : InkMove placed d (d.egressBegins ready)
  | frameEnd (d : Device) : InkMove placed d d.frameCompletes

/-- A chain of such operations. -/
abbrev Device.InkMoves (placed : Prop) : Device → Device → Prop := Relation.ReflTransGen (Device.InkMove placed)

namespace Device

variable {placed : Prop} {d e : Device}

theorem InkMove.moves (h : InkMove placed d e) : InkMoves placed d e := .single h

theorem InkMoves.aside (h : e.inkPath = d.inkPath := by rfl) : InkMoves placed d e := .single (.aside h)

theorem InkMoves.ite {a b : Device} {c : Prop} [Decidable c] (h : c → InkMoves placed d a) (k : ¬c → InkMoves placed d b) :
    InkMoves placed d (if c then a else b) := by
  split
  · next hc => exact h hc
  · next hc => exact k hc

/-- What stands behind a change of other parts. -/
theorem InkMoves.behind {f : Device} (k : InkMoves placed e f) (h : e.inkPath = d.inkPath := by rfl) : InkMoves placed d f :=
  .head (.aside h) k

/-- A change of other parts behind a chain. -/
theorem InkMoves.ahead {f : Device} (k : InkMoves placed d e) (h : f.inkPath = e.inkPath := by rfl) : InkMoves placed d f :=
  .tail k (.aside h)

theorem InkMoves.fold {α : Type} {f : Device → α → Device} (h : ∀ e a, InkMoves placed e (f e a)) (l : List α) (d : Device) :
    InkMoves placed d (l.foldl f d) := by
  induction l generalizing d with
  | nil => exact .refl
  | cons a l ih => exact (h d a).trans (ih _)

variable {i : Slot}

/-! ## The contact unit -/

theorem blockSlot_inkPath (i : Slot) (z : ZoneNo) (d : Device) : (d.blockSlot i z).inkPath = d.inkPath :=
  ite_keeps (f := inkPath) rfl rfl

theorem openFrom_inkMoves (hc : placed → (d.context i).isOpen = false) (s : Sample) (z : ZoneNo) :
    InkMoves placed d (d.openFrom i s z) := .ahead (InkMove.start hc _).moves

/-- A contact judged by a zone, in a slot without a stroke. -/
theorem judged_inkMoves (hc : placed → (d.context i).isOpen = false) (s : Sample) (w : PenEnd) (z : ZoneNo) :
    InkMoves placed d (if d.allows i w z then d.openFrom i s z else d.blockSlot i z) :=
  .ite (fun _ => openFrom_inkMoves hc s z) fun _ => .aside (blockSlot_inkPath i z d)

theorem hoverSample_inkMoves (hc : placed → (d.context i).isOpen = false) (s : Sample) : InkMoves placed d (d.hoverSample i s) := by
  refine .ite (fun _ => .refl) fun _ => ?_
  unfold contactBegin
  extract_lets e zone count c m
  exact .ite (fun _ => .aside (blockSlot_inkPath i zone e)) fun _ => .ite (fun _ => .aside (ite_keeps (f := inkPath) rfl rfl)) fun _ =>
    .ite (fun _ => .behind (openFrom_inkMoves (d := e) hc s zone)) fun _ => .aside

theorem settlingSample_inkMoves (hc : placed → (d.context i).isOpen = false) (s : Sample) :
    InkMoves placed d (d.settlingSample i s) := by
  unfold settlingSample
  extract_lets c0 e left c1 m zone
  exact .ite (fun _ => .aside) fun _ => .ite (fun _ => .aside) fun _ => .behind (judged_inkMoves (d := m) hc s _ zone)

/-- An end change closes the stroke before the new contact is judged (R51, R96). -/
theorem endChange_inkMoves (s : Sample) : InkMoves placed d (d.endChange i s) :=
  .head (.close d i .endChange s.stamp) (InkMoves.behind
    (judged_inkMoves (d := (d.closeStroke i .endChange s.stamp).seedFilter i s) (fun _ => closeStroke_isOpen (d := d) _ _) s _ _))

theorem continueStroke_inkMoves (s : Sample) : InkMoves placed d (d.continueStroke i s) :=
  .ite (fun _ => .behind (e := d.smoothFilter i s) (InkMove.emit _ i _ _ _).moves) fun _ => .aside

/-- A split closes the stroke before its continuation opens (R90). -/
theorem splitAllowed_inkMoves (s : Sample) (z : ZoneNo) : InkMoves placed d (d.splitAllowed i s z) := by
  unfold splitAllowed
  extract_lets d1 p k d2 d3
  have h2 : InkMoves placed d1 d2 := .ite (fun _ => .refl) fun _ => (InkMove.emit d1 i _ _ _).moves
  exact .behind ((h2.tail (.close d2 i _ _)).tail (.start (fun _ => closeStroke_isOpen _ _) _))

theorem inkSample_inkMoves (s : Sample) : InkMoves placed d (d.inkSample i s) := by
  have hrefused : InkMoves placed d (d.splitRefused i s) := .behind (e := d.smoothFilter i s) (InkMove.close _ i _ _).moves
  exact .ite (fun _ => endChange_inkMoves s) fun _ => .ite (fun _ => continueStroke_inkMoves s) fun _ =>
    .ite (fun _ => splitAllowed_inkMoves s _) fun _ => .ahead hrefused (blockSlot_inkPath i _ _)

theorem lift_inkMoves (s : Sample) : InkMoves placed d (d.lift i s) :=
  .ite (fun _ => .behind (e := d.setContact i { d.contact i with liftTime := s.stamp }) (.ahead (InkMove.close _ i _ _).moves))
    fun _ => .aside

theorem blockedSample_inkMoves (hc : placed → (d.context i).isOpen = false) (s : Sample) : InkMoves placed d (d.blockedSample i s) :=
  .ite (fun _ => .aside) fun _ =>
    .ite (fun _ => .behind (openFrom_inkMoves (d := d.seedFilter i s) hc s _)) fun _ => .refl

theorem captureSample_inkPath (i : Slot) (s : Sample) (d : Device) : (d.captureSample i s).inkPath = d.inkPath := by
  unfold captureSample
  refine ite_keeps (f := inkPath) rfl ?_
  split
  · rfl
  · exact ite_keeps (f := inkPath) rfl rfl

/-- A sample at a slot that agrees with itself opens a stroke only where the slot has none (R47 to R56, R81). -/
theorem takeSample_inkMoves (h : placed → d.SlotSound i) (s : Sample) : InkMoves placed d (d.takeSample i s) := by
  have hclosed : (d.contact i).state ≠ .inking → (d.contact i).state ≠ .holding → placed → (d.context i).isOpen = false := fun hi hh hp =>
    (h hp).closed hi hh
  unfold takeSample
  split
  · exact .refl
  · next hs =>
    exact .behind (hoverSample_inkMoves (d := (d.setState i .hover).restartPresence i) (hclosed (hs ▸ nofun) (hs ▸ nofun)) s)
  · next hs => exact .behind (hoverSample_inkMoves (d := d.restartPresence i) (hclosed (hs ▸ nofun) (hs ▸ nofun)) s)
  · next hs => exact .behind (settlingSample_inkMoves (d := d.restartPresence i) (hclosed (hs ▸ nofun) (hs ▸ nofun)) s)
  · exact .behind (e := d.restartPresence i) (.ite (fun _ => lift_inkMoves s) fun _ => inkSample_inkMoves s)
  · exact .behind (e := d.restartPresence i) (.ite (fun _ => .refl) fun _ => .behind (e := setContact i _ _) (inkSample_inkMoves s))
  · next hs => exact .behind (blockedSample_inkMoves (d := d.restartPresence i) (hclosed (hs ▸ nofun) (hs ▸ nofun)) s)
  · exact .aside (captureSample_inkPath i s (d.restartPresence i))

/-- A close, and the contact fields written behind it. -/
theorem closes_inkMoves (reason : CloseReason) (time : Word32) (h : e.inkPath = (d.closeStroke i reason time).inkPath := by rfl) :
    InkMoves placed d e := .ahead (InkMove.close d i reason time).moves h

theorem takeEnter_inkPath (i : Slot) (d : Device) : (d.takeEnter i).inkPath = d.inkPath := by
  unfold takeEnter
  split <;> rfl

theorem takeLeave_inkMoves (stamp : Word32) : InkMoves placed d (d.takeLeave i stamp) := by
  unfold takeLeave
  split
  · exact .refl
  · exact .refl
  · exact closes_inkMoves .lost stamp
  · exact closes_inkMoves .lift (d.contact i).liftTime
  · exact .aside

theorem dropRange_inkMoves (reason : CloseReason) : InkMoves placed d (d.dropRange i reason) := by
  unfold dropRange
  split
  · exact .refl
  · exact .refl
  · exact closes_inkMoves reason d.clock
  · exact closes_inkMoves reason d.clock
  · exact .aside

theorem retireStroke_inkMoves : InkMoves placed d (d.retireStroke i) := by
  refine closes_inkMoves (i := i) .retired d.clock ?_
  unfold retireStroke
  extract_lets e
  split <;> rfl

theorem liftHoldExpires_inkMoves : InkMoves placed d (d.liftHoldExpires i) :=
  .ite (fun _ => closes_inkMoves .lift (d.contact i).liftTime) fun _ => .refl

theorem presenceExpires_inkMoves : InkMoves placed d (d.presenceExpires i) := .ite (fun _ => dropRange_inkMoves .lost) fun _ => .refl

theorem pacerExpires_inkMoves : InkMoves placed d d.pacerExpires := .ite (fun ⟨hs, _⟩ => (InkMove.flush hs _).moves) fun _ => .refl

theorem takeDue_inkMoves : InkMoves placed d d.takeDue :=
  (InkMoves.fold (fun e i => (liftHoldExpires_inkMoves (d := e) (i := i)).trans presenceExpires_inkMoves) allSlots d).trans
    pacerExpires_inkMoves

theorem linkFalls_inkMoves : InkMoves placed d d.linkFalls :=
  .behind (.fold (f := fun e i => e.dropRange i .lost) (fun e i => dropRange_inkMoves .lost) allSlots d.lineDown)

/-! ## The Pen Table -/

theorem forceFree_inkMoves : InkMoves placed d (d.forceFree i) := closes_inkMoves .forced d.clock

theorem disableSlot_inkMoves : InkMoves placed d (d.disableSlot i) := by
  rw [disableSlot_cases]
  exact .ite (fun _ => .ahead forceFree_inkMoves) fun _ => .aside

theorem evict_inkPath (i : Slot) (d : Device) : (d.evict i).inkPath = d.inkPath := rfl

theorem bindSlot_inkPath (i : Slot) (t : Word24) (l : Lane) (a : Admission) (stamp : Word32) (d : Device) :
    (d.bindSlot i t l a stamp).inkPath = d.inkPath := rfl

theorem bindAttempt_inkPath (t : Word24) (l : Lane) (stamp : Word32) (d : Device) : (d.bindAttempt t l stamp).2.inkPath = d.inkPath := by
  unfold bindAttempt chooseSlot
  split
  · rfl
  · cases d.freeSlotNo with
    | some i => exact bindSlot_inkPath i _ _ _ _ d
    | none =>
      cases d.oldestAway with
      | some i => exact (bindSlot_inkPath i _ _ _ _ _).trans (evict_inkPath i d)
      | none => rfl

theorem checkSequence_inkMoves (l : Lane) (n : BitVec 4) : InkMoves placed d (d.checkSequence l n) :=
  .ite (fun _ => .aside) fun _ => .behind (e := post .laneGap (laneSubject l) (d.setLane l _)) (.ahead (InkMove.laneGap _ l).moves)

theorem penSample_inkMoves (h : placed → d.SlotsSound) (l : Lane) (s : Sample) : InkMoves placed d (d.penSample l s) := by
  unfold penSample
  split
  · next i _ =>
    exact .behind (e := d.seen i l s.stamp) (takeSample_inkMoves (fun hp => (Act.seen d i l s.stamp).slotsSound (h hp) i) s)
  · have hpath := bindAttempt_inkPath s.fields.transducer l s.stamp d
    have hsound := fun hp => bindAttempt_slotsSound (h hp) s.fields.transducer l s.stamp
    generalize d.bindAttempt s.fields.transducer l s.stamp = r at hpath hsound ⊢
    obtain ⟨_ | i, e⟩ := r
    · exact .aside hpath
    · exact .behind (takeSample_inkMoves (fun hp => hsound hp i) s) hpath

theorem penProximity_inkMoves (l : Lane) (t : Word24) (ev : ProximityEvent) (stamp : Word32) :
    InkMoves placed d (d.penProximity l t ev stamp) := by
  unfold penProximity
  split
  · exact .aside (takeEnter_inkPath _ _)
  · exact .behind (e := d.seen _ l stamp) (takeLeave_inkMoves stamp)
  · exact .aside (bindAttempt_inkPath t l stamp d)
  · exact .refl

/-! ## Range reads -/

theorem readItem_inkMoves (r : RangeRead) : InkMoves placed d (d.readItem r) := by
  have hclear : ∀ e : Device, InkMoves placed e (e.clearRead r.target r.next) := fun e => by
    unfold clearRead
    split
    · exact (InkMove.clearItem e _ _).moves
    · exact .refl
  exact .ite (fun _ => .aside) fun _ => .behind (e := d.reply _ _ _ _) (.ahead (hclear _))

theorem readBurst_inkMoves (n : Nat) (d : Device) : InkMoves placed d (readBurst n d) := by
  induction n generalizing d with
  | zero => exact .refl
  | succ n ih =>
    unfold readBurst
    split
    · exact .refl
    · exact .ite (fun _ => (readItem_inkMoves _).trans (ih _)) fun _ => .refl

theorem startRead_inkMoves (r : RangeRead) : InkMoves placed d (d.startRead r) :=
  .behind (e := d.setReading (some r)) (readBurst_inkMoves _ _)

theorem tableRead_inkMoves (tag : Word16) (t : ReadTarget) (a b : Byte) (n : Nat) : InkMoves placed d (d.tableRead tag t a b n) :=
  .ite (fun _ => startRead_inkMoves _) fun _ => .aside

theorem nextItem_inkMoves : InkMoves placed d d.nextItem := by
  unfold nextItem
  split
  · exact .refl
  · exact .ite (fun _ => readItem_inkMoves _) fun _ => .refl

end Device

end Sys2Proof.Machine
end

section
/-! SUPPORT. Every command, and every step, as a chain of moves on the ink path. -/

namespace Sys2Proof.Machine

open Device

variable {placed : Prop} {d : Device}

/-! ## Commands -/

theorem Device.onBound_inkMoves (tag : Word16) (code : Byte) (slot : BitVec 4) {f : Slot → Device → Device}
    (h : ∀ i e, InkMoves placed e (f i e)) : InkMoves placed d (d.onBound tag code slot f) := by
  unfold onBound
  split
  · exact .aside
  · exact .ite (fun _ => .aside) fun _ => .ahead (h _ d)

theorem Device.writeStaging_inkPath (tag : Word16) (code : Byte) (f : Bank → Bank) (d : Device) :
    (d.writeStaging tag code f).inkPath = d.inkPath := ite_keeps (f := inkPath) rfl (ite_keeps (f := inkPath) rfl rfl)

theorem Device.reply_inkPath (tag : Word16) (code : Byte) (r : Result) (p : List Byte) (d : Device) :
    (d.reply tag code r p).inkPath = d.inkPath := rfl

theorem runSetSlotEnable_inkMoves (t : Word16) (i : BitVec 4) (on : Bool) : InkMoves placed d (runSetSlotEnable t i on d) := by
  unfold runSetSlotEnable
  split
  · exact .aside
  · cases on
    · exact .ahead disableSlot_inkMoves
    · exact .aside

theorem runRetireNow_inkMoves (t : Word16) : InkMoves placed d (runRetireNow t d) :=
  .ite (fun _ => .aside) fun _ => .ite (fun _ => .aside) fun _ =>
    .ahead (.fold (fun _ _ => retireStroke_inkMoves) d.retiringSlots d)

theorem runWriteIdentity_inkMoves (t c : Word16) (b : Byte) : InkMoves placed d (runWriteIdentity t c b d) :=
  .ite (fun _ => .aside) fun hw => .ahead (InkMove.identify (Bool.not_eq_true _ ▸ hw) c b).moves

theorem runShareEnable_inkMoves (t : Word16) : InkMoves placed d (runShareEnable t d) := by
  unfold runShareEnable
  split
  · exact .aside
  · exact .aside
  · next hs => exact .ite (fun hw => .ahead (InkMove.enable hs hw).moves) fun _ => .aside

theorem runShareDisable_inkMoves (t : Word16) : InkMoves placed d (runShareDisable t d) := by
  unfold runShareDisable
  split
  · next hs => exact .ahead (InkMove.disable hs).moves (reply_inkPath _ _ _ _ _)
  · exact .aside

theorem runFlush_inkMoves (t : Word16) : InkMoves placed d (runFlush t d) := by
  unfold runFlush
  split
  · next hs => exact .ahead (InkMove.flush hs 0).moves (reply_inkPath _ _ _ _ _)
  · exact .aside

theorem runAck_inkPath (t : Word16) (k : BitVec 4) (j : BitVec 5) (d : Device) : (runAck t k j d).inkPath = d.inkPath := by
  unfold runAck
  split
  · split <;> rfl
  · rfl

/-- Every execution is a chain of these operations (R155). -/
theorem runCommand_inkMoves (i : Instr) (d : Device) : InkMoves placed d (runCommand i d) := by
  cases i with
  | restart t => exact .ahead (InkMove.restart d).moves
  | clearCounters t => exact .ahead (InkMove.clear d).moves
  | setPacing t p f => exact .ahead (InkMove.pacing d p f).moves
  | writeIdentity t c b => exact runWriteIdentity_inkMoves t c b
  | shareEnable t => exact runShareEnable_inkMoves t
  | shareDisable t => exact runShareDisable_inkMoves t
  | flush t => exact runFlush_inkMoves t
  | retireNow t => exact runRetireNow_inkMoves t
  | setSlotEnable t i on => exact runSetSlotEnable_inkMoves t i on
  | unbind t i => exact onBound_inkMoves t 0x2A i fun _ _ => forceFree_inkMoves
  | forceLeave t i => exact onBound_inkMoves t 0x2B i (f := fun i e => e.dropRange i .forced) fun _ _ => dropRange_inkMoves .forced
  | captureOffset t i x y => exact onBound_inkMoves t 0x2C i fun _ _ => .aside
  | cancelCapture t i =>
    exact onBound_inkMoves t 0x2D i fun _ _ => .aside (ite_keeps (f := inkPath) (ite_keeps (f := inkPath) rfl rfl) rfl)
  | readCounters t g c => exact .ite (fun _ => .aside) fun _ => startRead_inkMoves _
  | readAdmission t a b => exact tableRead_inkMoves _ _ _ _ _
  | readProfile t a b => exact tableRead_inkMoves _ _ _ _ _
  | readCurve t a b => exact tableRead_inkMoves _ _ _ _ _
  | readSlot t a b p => exact .ite (fun _ => .aside) fun _ => tableRead_inkMoves _ _ _ _ _
  | readStroke t a b p => exact .ite (fun _ => .aside) fun _ => tableRead_inkMoves _ _ _ _ _
  | readZone t s a b => exact .ite (fun _ => .aside) fun _ => .ite (fun _ => .aside) fun _ => startRead_inkMoves _
  | apply t => exact .aside (ite_keeps (f := inkPath) rfl (ite_keeps (f := inkPath) rfl rfl))
  | setLineThreshold t l => exact .aside (ite_keeps (f := inkPath) rfl rfl)
  | ack t k j => exact .aside (runAck_inkPath t k j d)
  | writeOpenArea t r => exact .aside (writeStaging_inkPath _ _ _ d)
  | writeZoneRect t z a b c e =>
    show InkMoves placed d (runWriteZoneRect t z a b c e d)
    unfold runWriteZoneRect
    split
    · exact .aside
    · exact .aside (writeStaging_inkPath _ _ _ d)
  | writeZoneAttributes t z e r =>
    show InkMoves placed d (runWriteZoneAttributes t z e r d)
    unfold runWriteZoneAttributes
    split
    · exact .aside
    · exact .aside (writeStaging_inkPath _ _ _ d)
  | writeSlotParameters t i p a =>
    show InkMoves placed d (runWriteSlotParameters t i p a d)
    unfold runWriteSlotParameters
    split <;> exact .aside
  | setOffset t i x y =>
    show InkMoves placed d (runSetOffset t i x y d)
    unfold runSetOffset
    split <;> exact .aside
  | writeAdmission t i e m k a p =>
    show InkMoves placed d (runWriteAdmission t i e m k a p d)
    unfold runWriteAdmission
    split <;> exact .aside
  | setLevel t k l =>
    show InkMoves placed d (runSetLevel t k l d)
    unfold runSetLevel
    split <;> exact .aside
  | _ => exact .aside

/-! ## The command path -/

namespace Device

theorem takingTest_inkMoves : InkMoves placed d d.takingTest := by
  have htaken : ∀ n e, InkMoves placed e (takeCommands n e) := fun n => by
    induction n with
    | zero => exact fun _ => .refl
    | succ n ih =>
      intro e
      unfold takeCommands
      split
      · exact .refl
      · next c rest _ =>
        exact .ite
          (fun _ => .behind ((runCommand_inkMoves (decodeCommand c) { e with responder := { e.responder with queue := rest } }).trans (ih _)))
          fun _ => .refl
  exact htaken _ d

theorem commandArrives_inkMoves (c : Command) : InkMoves placed d (d.commandArrives c) :=
  .ite (fun _ => .behind takingTest_inkMoves) fun _ => .aside

theorem commandStep_inkMoves (i j : Instr) : InkMoves placed d (d.commandStep i (runCommand j)) := by
  unfold commandStep
  refine .ite (fun _ => runCommand_inkMoves j d) fun _ => ?_
  split
  · exact commandArrives_inkMoves _
  · exact .refl

theorem cellArrives_inkMoves (h : placed → d.SlotsSound) (cell : Cell) : InkMoves placed d (d.cellArrives cell) := by
  have hchecked : ∀ l n, placed → (d.checkSequence l n).SlotsSound := fun l n hp =>
    (checkSequence_acts l n d).keeps (fun _ _ => Act.slotsSound) (h hp)
  unfold cellArrives
  split
  · exact .refl
  · split
    · exact (checkSequence_inkMoves _ _).trans (penSample_inkMoves (hchecked _ _) _ _)
    · exact (checkSequence_inkMoves _ _).trans (penProximity_inkMoves _ _ _ _)
    · exact commandArrives_inkMoves _
    · exact .aside

theorem replyCompletes_inkMoves : InkMoves placed d d.replyCompletes := by
  unfold replyCompletes
  split
  · exact .behind takingTest_inkMoves
  · exact .refl

end Device

/-! ## Every step -/

theorem inkMoves_of_onDevice {f : Device → Device} {s t : State} (he : s.onDevice f = .next t) (h : InkMoves placed s.dev (f s.dev)) :
    InkMoves placed s.dev t.dev := by
  cases he
  exact h

/-- An event of the links, lines and timers. -/
theorem exec_event_inkMoves {i : Instr} {s t : State} (h : encodeCommand i = none) (he : exec i s = .next t) :
    InkMoves s.dev.SlotsSound s.dev t.dev := by
  cases i with
  | hardReset v => exact inkMoves_of_onDevice (f := fun _ => hardResetDevice v) he (InkMove.reset s.dev v).moves
  | linkValidFalls => exact inkMoves_of_onDevice he linkFalls_inkMoves
  | linkValidRises => exact inkMoves_of_onDevice (f := linkRises) he .aside
  | millisecondTick => exact inkMoves_of_onDevice he (takeDue_inkMoves.tail (.tick _))
  | sample cell => exact inkMoves_of_onDevice he (cellArrives_inkMoves id cell)
  | proximity cell => exact inkMoves_of_onDevice he (cellArrives_inkMoves id cell)
  | commandCell cell => exact inkMoves_of_onDevice he (cellArrives_inkMoves id cell)
  | invalidCell cell => exact inkMoves_of_onDevice he (cellArrives_inkMoves id cell)
  | presenceExpiry i => exact inkMoves_of_onDevice he (presenceExpires_inkMoves (i := i))
  | liftHoldExpiry i => exact inkMoves_of_onDevice he (liftHoldExpires_inkMoves (i := i))
  | pacerExpiry => exact inkMoves_of_onDevice he pacerExpires_inkMoves
  | noticePulseEnd => exact inkMoves_of_onDevice (f := fun d => { d with notices := d.notices.pulseEnds }) he .aside
  | overlayTxBegin ready => exact inkMoves_of_onDevice he (InkMove.overlayBegin _ ready).moves
  | overlayTxComplete => exact inkMoves_of_onDevice he (InkMove.overlayEnd _).moves
  | shareEgressBegin ready => exact inkMoves_of_onDevice he (InkMove.egressBegin _ ready).moves
  | replyTxComplete => exact inkMoves_of_onDevice he replyCompletes_inkMoves
  | frameTxComplete => exact inkMoves_of_onDevice he (InkMove.frameEnd _).moves
  | rangeReadNextItem =>
    exact inkMoves_of_onDevice (f := fun d => if d.responder.reading.isSome then d.nextItem.takingTest else d) he
      (.ite (fun _ => nextItem_inkMoves.trans takingTest_inkMoves) fun _ => .refl)
  | _ => cases h

/-- Every step is a chain of these operations, and in sound slots its strokes open where none is. -/
theorem step_inkMoves {s t : State} (h : step s = .next t) : InkMoves s.dev.SlotsSound s.dev t.dev := by
  unfold step at h
  split at h
  · cases h
    exact .refl
  · next i rest _ =>
    cases hc : encodeCommand i with
    | none => exact exec_event_inkMoves (s := { s with pending := rest }) hc h
    | some c =>
      rw [exec_of_command hc] at h
      exact inkMoves_of_onDevice (s := { s with pending := rest }) h (commandStep_inkMoves i _)

end Sys2Proof.Machine
end

section
/-! Every step keeps the stroke ids distinct, and one delivery record for each open stroke (R83, R118). -/

namespace Sys2Proof.Machine

open Device

/-- The allocator's candidate, which slots hold an open stroke and what ids stand in them, and the bonds of the delivery records. -/
def Device.roll (d : Device) := (d.strokes.candidate, fun i => ((d.context i).isOpen, (d.context i).id), d.router.bonds)

namespace Device

variable {placed : Prop} {d e : Device}

/-! ## What leaves the roll alone -/

theorem roll_eq (hs : e.strokes = d.strokes) (hb : e.router.bonds = d.router.bonds) : e.roll = d.roll := by
  unfold roll context
  rw [hs, hb]

theorem roll_of_inkPath (h : e.inkPath = d.inkPath) : e.roll = d.roll := by
  simp only [inkPath, Prod.mk.injEq] at h
  obtain ⟨hstrokes, hrouter, -⟩ := h
  exact roll_eq hstrokes (congrArg Router.bonds hrouter)

theorem Framed.roll (h : d.Framed e) : e.roll = d.roll := roll_eq (by rw [h.1]) h.bonds

/-- Contexts written anew where the open flags and the ids are as they were. -/
theorem roll_of_contexts (hc : ∀ j, (e.context j).isOpen = (d.context j).isOpen ∧ (e.context j).id = (d.context j).id)
    (hn : e.strokes.candidate = d.strokes.candidate) (hb : e.router.bonds = d.router.bonds) : e.roll = d.roll := by
  have hcontexts : (fun i => ((e.context i).isOpen, (e.context i).id)) = fun i => ((d.context i).isOpen, (d.context i).id) :=
    funext fun j => Prod.ext (hc j).1 (hc j).2
  unfold roll
  rw [hcontexts, hn, hb]

/-- A SEG is of the stroke that is open. -/
theorem emitSeg_roll (i : Slot) (p : Point) (w : Byte) (time : Word32) (d : Device) : (d.emitSeg i p w time).roll = d.roll := by
  obtain ⟨hcontext, -⟩ := emitSeg_offered i p w time d
  have hothers := (emitSeg_within i p w time d).1
  refine roll_of_contexts (fun j => ?_) ?_ (routeSeg_bonds i _ (d.setContext i _))
  · by_cases hj : j = i
    · rw [hj, hcontext]
      exact ⟨rfl, rfl⟩
    · obtain ⟨-, -, hsame, -⟩ := hothers j hj
      rw [hsame]
      exact ⟨rfl, rfl⟩
  · unfold emitSeg
    rw [routeSeg_routed]
    rfl

theorem markLaneGap_roll (l : Lane) (d : Device) : (d.markLaneGap l).roll = d.roll := by
  refine roll_of_contexts (fun j => ?_) rfl rfl
  rw [markLaneGap_context]
  split <;> exact ⟨rfl, rfl⟩

theorem clearItem_roll (g : BitVec 3) (n : Nat) (d : Device) : (d.clearItem g n).roll = d.roll := by
  unfold clearItem
  split <;> rfl

theorem flushTrigger_roll (d : Device) : d.flushTrigger.roll = d.roll :=
  ite_keeps (f := roll) rfl (ite_keeps (f := roll) (buildFrame_framed d).roll rfl)

theorem drain_roll (d : Device) : d.drain.roll = d.roll :=
  have hend : ∀ e : Device, e.endDraining.roll = e.roll := fun _ => ite_keeps (f := roll) rfl rfl
  (hend _).trans (buildWhile_framed 1 2 d).roll

theorem shareOffClose_roll (d : Device) (i : Slot) : (d.shareOffClose i).roll = d.roll := by
  refine roll_eq ?_ (shareOffClose_bonds d i)
  unfold shareOffClose
  extract_lets k
  split
  · rfl
  · exact ite_keeps (f := strokes) rfl rfl

theorem disableShare_roll (d : Device) : d.disableShare.roll = d.roll :=
  (drain_roll _).trans (fold_keeps (f := roll) shareOffClose_roll allSlots _)

theorem overlayBegins_roll (ready : Bool) (d : Device) : (d.overlayBegins ready).roll = d.roll := by
  unfold overlayBegins
  split <;> rfl

theorem egressBegins_roll (ready : Bool) (d : Device) : (d.egressBegins ready).roll = d.roll := by
  unfold egressBegins frameBegins
  repeat' split
  all_goals rfl

theorem takeFreedBuffer_roll (d : Device) : d.takeFreedBuffer.roll = d.roll := by
  unfold takeFreedBuffer
  split
  · exact (sixRecordTrigger_framed _).roll.trans (ite_keeps (f := roll) (buildFrame_framed d).roll rfl)
  · exact drain_roll d
  · rfl

theorem frameCompletes_roll (d : Device) : d.frameCompletes.roll = d.roll := by
  unfold frameCompletes
  split
  · exact takeFreedBuffer_roll _
  · rfl

/-- Only opens, closes, RESTART and a hard reset write to the roll. -/
theorem InkMove.roll_cases (m : InkMove placed d e) :
    e.roll = d.roll ∨ (∃ i q, (placed → (d.context i).isOpen = false) ∧ e = d.openStroke i q) ∨
      (∃ i reason time, e = d.closeStroke i reason time) ∨ e.roll = Device.reset.roll := by
  cases m with
  | start hc q => exact .inr (.inl ⟨_, q, hc, rfl⟩)
  | close i reason time => exact .inr (.inr (.inl ⟨i, reason, time, rfl⟩))
  | reset v =>
    rw [hardResetDevice_eq]
    exact .inr (.inr (.inr rfl))
  | restart => exact .inr (.inr (.inr rfl))
  | aside h => exact .inl (roll_of_inkPath h)
  | emit i p width stamp => exact .inl (emitSeg_roll i p width stamp d)
  | laneGap l => exact .inl (markLaneGap_roll l d)
  | disable _ => exact .inl (disableShare_roll d)
  | flush _ c => exact .inl (flushTrigger_roll d)
  | clearItem g n => exact .inl (clearItem_roll g n d)
  | overlayBegin ready => exact .inl (overlayBegins_roll ready d)
  | overlayEnd => exact .inl (ite_keeps (f := roll) rfl rfl)
  | egressBegin ready => exact .inl (egressBegins_roll ready d)
  | frameEnd => exact .inl (frameCompletes_roll d)
  | identify | enable | pacing | tick | clear => exact .inl rfl

/-! ## What the roll says -/

section OfRoll

variable (h : e.roll = d.roll)

include h

theorem context_of_roll (j : Slot) : (e.context j).isOpen = (d.context j).isOpen ∧ (e.context j).id = (d.context j).id :=
  Prod.mk.inj (congrFun (congrArg (fun r => r.2.1) h) j)

theorem idsSound_of_roll (hs : d.IdsSound) : e.IdsSound := by
  obtain ⟨hcandidate, hnonzero, hdistinct⟩ := hs
  have hn : e.strokes.candidate = d.strokes.candidate := congrArg Prod.fst h
  have hc := context_of_roll h
  refine ⟨hn ▸ hcandidate, fun j hj => ?_, fun j k hj hk he => ?_⟩
  · rw [(hc j).2]
    exact hnonzero j ((hc j).1 ▸ hj)
  · rw [(hc j).2, (hc k).2] at he
    exact hdistinct j k ((hc j).1 ▸ hj) ((hc k).1 ▸ hk) he

theorem deliveriesSound_of_roll (hd : d.DeliveriesSound) : e.DeliveriesSound := by
  have hbonds : e.router.bonds = d.router.bonds := congrArg (fun r => r.2.2) h
  rw [deliveriesSound_iff, hbonds]
  simp only [context_of_roll h]
  exact deliveriesSound_iff.mp hd

end OfRoll

/-! ## Every operation -/

theorem InkMove.idsSound (hp : placed) (m : InkMove placed d e) (h : d.IdsSound) : e.IdsSound := by
  rcases m.roll_cases with hr | ⟨i, q, hc, rfl⟩ | ⟨i, reason, time, rfl⟩ | hr
  · exact idsSound_of_roll hr h
  · exact openStroke_idsSound h (hc hp) q
  · exact closeStroke_idsSound h reason time
  · obtain ⟨-, -, -, -, -, -, hreset, -⟩ := reset_sound
    exact idsSound_of_roll hr hreset

theorem InkMove.deliveriesSound (hp : placed) (m : InkMove placed d e) (hs : d.IdsSound) (h : d.DeliveriesSound) : e.DeliveriesSound := by
  rcases m.roll_cases with hr | ⟨i, q, hc, rfl⟩ | ⟨i, reason, time, rfl⟩ | hr
  · exact deliveriesSound_of_roll hr h
  · exact openStroke_deliveriesSound hs h (hc hp) q
  · exact closeStroke_deliveriesSound hs h reason time
  · obtain ⟨-, -, -, -, -, -, -, -, -, hreset, -⟩ := reset_sound
    exact deliveriesSound_of_roll hr hreset

theorem InkMoves.idsSound_deliveriesSound (hp : placed) (m : InkMoves placed d e) (h : d.IdsSound) :
    e.IdsSound ∧ (d.DeliveriesSound → e.DeliveriesSound) := by
  induction m with
  | refl => exact ⟨h, id⟩
  | tail _ hm ih => exact ⟨hm.idsSound hp ih.1, fun k => hm.deliveriesSound hp ih.1 (ih.2 k)⟩

end Device

/-- Settles O55: a step is a chain of operations on the ink path, and each of them keeps the ids distinct and the delivery records with their
strokes. -/
theorem strokeIdsStayDistinct : Obligations.StrokeIdsStayDistinct := fun _ _ h hs => (step_inkMoves h).idsSound_deliveriesSound hs

end Sys2Proof.Machine
end

section
/-! Rounded division and the smoothing of one axis (R108). -/

namespace Sys2Proof.Machine

open Device

/-! ## Division by a power of two, rounded half away from zero -/

@[simp] theorem roundedShift_zero_right (v : Int) : roundedShift v 0 = v := rfl

@[simp] theorem roundedShift_zero_left (k : Nat) : roundedShift 0 k = 0 := by simp [roundedShift]

/-- The rounded quotient keeps the sign, and its size is the whole number of `2 ^ k` in the size plus a half. -/
theorem roundedShift_eq_sign_mul {k : Nat} (hk : k ≠ 0) (v : Int) :
    ∃ q : Nat, roundedShift v k = v.sign * q ∧ 2 ^ k * q ≤ v.natAbs + 2 ^ (k - 1) ∧ v.natAbs + 2 ^ (k - 1) < 2 ^ k * q + 2 ^ k := by
  refine ⟨(v.natAbs + 2 ^ (k - 1)) / 2 ^ k, if_neg hk, Nat.mul_div_le _ _, ?_⟩
  exact Nat.lt_mul_div_succ _ (Nat.two_pow_pos k)

theorem roundedShift_neg (v : Int) (k : Nat) : roundedShift (-v) k = -roundedShift v k := by
  unfold roundedShift
  split
  · rfl
  · rw [Int.sign_neg, Int.natAbs_neg, Int.neg_mul]

/-- The counterpart of `roundedShift_le` below zero, by symmetry. -/
theorem le_roundedShift (v : Int) (k : Nat) : min v 0 ≤ roundedShift v k := by
  have h := roundedShift_le (-v) k
  rw [roundedShift_neg] at h
  omega

/-- The rounded quotient is a nearest whole number, and of two the one farther from zero (R108, R113). -/
theorem roundedShift_nearest {k : Nat} (hk : k ≠ 0) (v : Int) :
    2 * (2 ^ k * roundedShift v k - v).natAbs ≤ 2 ^ k ∧
      (2 * (2 ^ k * roundedShift v k - v).natAbs = 2 ^ k → v.natAbs < (2 ^ k * roundedShift v k).natAbs) := by
  obtain ⟨q, hq, hle, hlt⟩ := roundedShift_eq_sign_mul hk v
  have hdouble := Nat.two_pow_pred_mul_two (Nat.pos_of_ne_zero hk)
  have hcast : ((2 ^ k * q : Nat) : Int) = 2 ^ k * q := by push_cast; rfl
  rcases lt_trichotomy v 0 with hv | rfl | hv
  · rw [hq, Int.sign_eq_neg_one_of_neg hv, neg_one_mul, mul_neg, ← hcast]
    omega
  · rw [roundedShift_zero_left, mul_zero, sub_zero, Int.natAbs_zero]
    omega
  · rw [hq, Int.sign_eq_one_of_pos hv, one_mul, ← hcast]
    omega

/-- A distance of at least half the divisor is rounded to a whole number other than 0. -/
theorem roundedShift_ne_zero {v : Int} {k : Nat} (h : 2 ^ (k - 1) ≤ v.natAbs) : roundedShift v k ≠ 0 := by
  intro h0
  by_cases hk : k = 0
  · rw [hk, roundedShift_zero_right] at h0
    simp [h0] at h
  · obtain ⟨hnear, htie⟩ := roundedShift_nearest hk v
    have hdouble := Nat.two_pow_pred_mul_two (Nat.pos_of_ne_zero hk)
    rw [h0, mul_zero, zero_sub, Int.natAbs_neg] at hnear htie
    exact absurd (htie (by omega)) (by simp)

/-! ## One axis -/

/-- The smoothed axis stands at the filter value and the rounded part of its distance to the target. -/
theorem smoothAxis_cast (k v : Nat) (x : Word16) :
    (smoothAxis k v x : Int) = v + roundedShift (16 * (x.toNat : Int) - v) k := by
  have h := le_roundedShift (16 * (x.toNat : Int) - v) k
  unfold smoothAxis
  omega

theorem smoothAxis_between (k v : Nat) (x : Word16) :
    min v (16 * x.toNat) ≤ smoothAxis k v x ∧ smoothAxis k v x ≤ max v (16 * x.toNat) := by
  have hcast := smoothAxis_cast k v x
  have hlow := le_roundedShift (16 * (x.toNat : Int) - v) k
  have hhigh := roundedShift_le (16 * (x.toNat : Int) - v) k
  omega

/-- Settles O22: each axis moves by the rounded part of its distance, which lies between 0 and the distance. -/
theorem smoothingApproachesTarget : Obligations.SmoothingApproachesTarget := by
  intro d i j q k v x a b
  have hb : b = roundedShift a k := by
    have hcast := smoothAxis_cast k v x
    simp only [b, a]
    omega
  have hlow : min a 0 ≤ b := hb ▸ le_roundedShift a k
  have hhigh : b ≤ max a 0 := hb ▸ roundedShift_le a k
  obtain ⟨hmin, hmax⟩ := smoothAxis_between k v x
  refine ⟨fun hk => ?_, fun hpos hk => ?_, by omega, by omega, by omega, by omega, hmin, hmax, setFilter_filter_same d i _,
    setFilter_filter_ne d _, fun hf => ⟨(Request.smooth d q).rangesKept.1 hf, (Request.seed d q).rangesKept.1 hf⟩⟩
  · have hba : b = a := by rw [hb, hk, roundedShift_zero_right]
    exact ⟨hba, by simp only [a, b] at hba; omega⟩
  · have hk0 : k ≠ 0 := by omega
    rw [hb]
    exact ⟨if_neg hk0, roundedShift_nearest hk0 a⟩

/-! ## A pen held still -/

/-- A filter value's distance to its target, in sixteenths of a unit. -/
def axisGap (x : Word16) (v : Nat) : Nat := ((v : Int) - 16 * (x.toNat : Int)).natAbs

/-- A sample shortens a gap of half the divisor or more, and lets no smaller one grow to it. -/
theorem axisGap_smoothAxis_le (k v : Nat) (x : Word16) :
    axisGap x (smoothAxis k v x) ≤ max (axisGap x v - 1) (2 ^ (k - 1) - 1) := by
  have hcast := smoothAxis_cast k v x
  have hlow := le_roundedShift (16 * (x.toNat : Int) - v) k
  have hhigh := roundedShift_le (16 * (x.toNat : Int) - v) k
  have hmoves := roundedShift_ne_zero (v := 16 * (x.toNat : Int) - v) (k := k)
  unfold axisGap
  omega

theorem axisGap_iterate_le (k v : Nat) (x : Word16) (m : Nat) :
    axisGap x (Nat.iterate (fun u => smoothAxis k u x) m v) ≤ max (axisGap x v - m) (2 ^ (k - 1) - 1) := by
  induction m with
  | zero => exact le_max_left _ _
  | succ m ih =>
    rw [Function.iterate_succ_apply']
    have hstep := axisGap_smoothAxis_le k (Nat.iterate (fun u => smoothAxis k u x) m v) x
    omega

theorem toNat_unitAxis {v : Nat} (h : v ≤ 1048560) : (unitAxis v).toNat = (v + 8) / 16 := by
  rw [unitAxis, if_neg (by omega), BitVec.toNat_ofNat, Nat.mod_eq_of_lt (by omega)]

/-- A value within seven sixteenths of a unit reads as the unit (R110). -/
theorem unitAxis_of_axisGap_le {x : Word16} {v : Nat} (h : axisGap x v ≤ 7) : unitAxis v = x := by
  have hx := x.isLt
  have hq : (v + 8) / 16 = x.toNat := by
    unfold axisGap at h
    omega
  rw [unitAxis, hq, if_neg (by omega), BitVec.ofNat_toNat, BitVec.setWidth_eq]

/-- Settles O23: the gap shrinks with every sample until it is below half the divisor, at most seven sixteenths, and stays there. -/
theorem heldPenReachesItsPoint : Obligations.HeldPenReachesItsPoint := by
  intro v k x hv
  refine ⟨toNat_unitAxis hv, by omega, unitAxis_of_axisGap_le (by simp [axisGap]), fun hk => ⟨axisGap x v, fun m hm => ?_⟩⟩
  have hgap : axisGap x (Nat.iterate (fun u => smoothAxis k u x) m v) ≤ 2 ^ (k - 1) - 1 := by
    have := axisGap_iterate_le k v x m
    omega
  have hseven : 2 ^ (k - 1) ≤ 2 ^ 3 := Nat.pow_le_pow_right (by decide) (by omega)
  exact ⟨unitAxis_of_axisGap_le (by omega), hgap⟩

end Sys2Proof.Machine
end

section
/-! The width of a sample: a pressure placed on the curve, the eraser's width, and the cap (R113 to R115). -/

namespace Sys2Proof.Machine

open Device

/-! ## A pressure placed between two knots -/

section Between

variable {f : Int}

/-- The part of a knot distance that a pressure below the next knot stands for is at most the distance. -/
theorem natAbs_mul_le_511_mul (hf : 0 ≤ f) (hf' : f ≤ 511) (w : Int) : (w * f).natAbs ≤ 511 * w.natAbs := by
  rw [Int.natAbs_mul, Nat.mul_comm]
  exact Nat.mul_le_mul_right _ (by omega)

theorem natAbs_roundedShift_mul_le (hf : 0 ≤ f) (hf' : f ≤ 511) (w : Int) : (roundedShift (w * f) 9).natAbs ≤ w.natAbs := by
  have hpart := natAbs_mul_le_511_mul hf hf' w
  obtain ⟨hnear, -⟩ := roundedShift_nearest (k := 9) (by decide) (w * f)
  omega

theorem roundedShift_mul_between (hf : 0 ≤ f) (hf' : f ≤ 511) (w : Int) :
    min w 0 ≤ roundedShift (w * f) 9 ∧ roundedShift (w * f) 9 ≤ max w 0 := by
  have hsize := natAbs_roundedShift_mul_le hf hf' w
  have hlow := le_roundedShift (w * f) 9
  have hhigh := roundedShift_le (w * f) 9
  rcases le_total 0 w with hw | hw
  · have := mul_nonneg hw hf
    omega
  · have := mul_nonpos_of_nonpos_of_nonneg hw hf
    omega

end Between

/-- The last of the 512 pressures of an interval reaches the knot above. -/
theorem roundedShift_mul_last {w : Int} (hw : w.natAbs ≤ 255) : roundedShift (w * 511) 9 = w := by
  obtain ⟨hnear, -⟩ := roundedShift_nearest (k := 9) (by decide) (w * 511)
  omega

/-- A knot that is not 0 is a width in range (R113). -/
theorem toNat_range_of_ne_zero {b : Byte} (h : b ≠ 0) : 1 ≤ (b.toNat : Int) ∧ (b.toNat : Int) ≤ 255 := by
  have hne : b.toNat ≠ 0 := fun k => h (BitVec.eq_of_toNat_eq k)
  have hlt := b.isLt
  omega

theorem toNat_clampWidth {v : Int} (h : 1 ≤ v) (h' : v ≤ 255) : ((clampWidth v).toNat : Int) = v := by
  rw [clampWidth, if_neg (by omega), if_neg (by omega), BitVec.toNat_ofNat, Nat.mod_eq_of_lt (by omega)]
  omega

/-- A tip's width, with the interval of its pressure named (R113). -/
theorem tipWidth_eq {p : BitVec 12} {n : Fin 8} (h : p.toNat / 512 = n.val) (k : Knots) :
    tipWidth k p =
      clampWidth ((k[n.castSucc]).toNat +
        roundedShift (((k[n.succ]).toNat - (k[n.castSucc]).toNat) * ((p.toNat : Int) - 512 * n.val)) 9) := by
  obtain ⟨n, hn⟩ := n
  subst h
  have hf : ((p.toNat % 512 : Nat) : Int) = (p.toNat : Int) - 512 * ((p.toNat / 512 : Nat) : Int) := by omega
  rw [← hf]
  rfl

/-! ## The cap -/

theorem capWidth_zero (w : Byte) : capWidth 0 w = w := if_pos rfl

theorem capWidth_of_lt {cap w : Byte} (h : cap ≠ 0) (hw : cap < w) : capWidth cap w = cap := by
  rw [capWidth, if_neg h, if_pos hw]

theorem capWidth_of_le {cap w : Byte} (h : cap = 0 ∨ w ≤ cap) : capWidth cap w = w := by
  rcases h with rfl | hw
  · exact capWidth_zero w
  · rw [capWidth, if_neg (BitVec.not_lt.mpr hw), ite_self]

namespace Device

variable (d : Device) (i : Slot) (p : BitVec 12)

theorem widthFor_tip : d.widthFor i .tip p 0 = tipWidth d.pens.curves[index4 (d.slot i).params.curve] p := capWidth_zero _

theorem widthFor_eraser : d.widthFor i .eraser p 0 = (d.slot i).params.eraserWidth := capWidth_zero _

/-- A cap acts on the width without one. -/
theorem widthFor_cap (w : PenEnd) (cap : Byte) : d.widthFor i w p cap = capWidth cap (d.widthFor i w p 0) := by
  cases w with
  | tip => rw [widthFor_tip]; rfl
  | eraser => rw [widthFor_eraser]; rfl

end Device

/-- Settles O24: the curve's part is a rounded quotient that lies between its two knots, and the cap is applied last. -/
theorem widthFollowsCurveAndCap : Obligations.WidthFollowsCurveAndCap := by
  intro d i p n w cap knots f lo hi t r
  have hcap := d.widthFor_cap i p w cap
  refine ⟨fun hknots hn => ?_, d.widthFor_eraser i p, fun h hw => hcap.trans (capWidth_of_lt h hw), fun h => hcap.trans (capWidth_of_le h),
    fun hs => widthFor_range hs i w p cap⟩
  have hr : r = roundedShift ((hi - lo) * f) 9 := rfl
  have hf : 0 ≤ f ∧ f ≤ 511 := by simp only [f]; omega
  have hlo : 1 ≤ lo ∧ lo ≤ 255 := toNat_range_of_ne_zero (hknots n.castSucc)
  have hhi : 1 ≤ hi ∧ hi ≤ 255 := toNat_range_of_ne_zero (hknots n.succ)
  have hsize : r.natAbs ≤ (hi - lo).natAbs := natAbs_roundedShift_mul_le hf.1 hf.2 _
  have hbetween : min (hi - lo) 0 ≤ r ∧ r ≤ max (hi - lo) 0 := roundedShift_mul_between hf.1 hf.2 _
  have hwidth : ((d.widthFor i .tip p 0).toNat : Int) = lo + r := by
    rw [d.widthFor_tip, tipWidth_eq hn]
    exact toNat_clampWidth (v := lo + r) (by omega) (by omega)
  have hreaches (b : Byte) (h : lo + r = b.toNat) : d.widthFor i .tip p 0 = b := BitVec.eq_of_toNat_eq (by omega)
  refine ⟨hwidth, hf.1, hf.2, natAbs_mul_le_511_mul hf.1 hf.2 _, hsize, by omega, by omega, by omega, by omega,
    (roundedShift_nearest (k := 9) (by decide) t).1, (roundedShift_nearest (k := 9) (by decide) t).2, fun h0 => ?_, fun hp => ?_⟩
  · have hr0 : r = 0 := by rw [hr, h0, mul_zero, roundedShift_zero_left]
    exact hreaches _ (by rw [hr0, add_zero])
  · subst hp
    obtain rfl : n = 7 := Fin.ext hn.symm
    have hrw : r = hi - lo := roundedShift_mul_last (by omega)
    exact hreaches knots[8] (show lo + r = hi by omega)

end Sys2Proof.Machine
end

section
/-! The share egress link: replies before frames, and the command that a reply's completion lets in (R137, R148, R154, R155). -/

namespace Sys2Proof.Machine

open Device

namespace Device

variable {d : Device}

/-! ## The unit that begins -/

theorem egressBegins_of_reply {r : ReplyCell} {replies : List ReplyCell} (hidle : d.arbiter.inTransmission = none)
    (hr : d.arbiter.replies = r :: replies) :
    d.egressBegins true = { d with arbiter := { d.arbiter with inTransmission := some (.reply r.bytes) } } := by
  simp only [egressBegins, hidle, hr]

theorem egressBegins_of_frame {b : Fin 2} {rest : List (Fin 2)} {f : Frame} (hidle : d.arbiter.inTransmission = none)
    (hr : d.arbiter.replies = []) (ho : d.framer.heldOrder = b :: rest) (hb : d.framer.buffers[b] = .held f) :
    d.egressBegins true =
      { d with
        framer := { d.framer with buffers := d.framer.buffers.set b (.sending f), heldOrder := rest }
        arbiter := { d.arbiter with inTransmission := some (.frame b f.bytes) } } := by
  simp only [egressBegins, hidle, hr, frameBegins, ho, hb, FrameBuffer.begun, FrameBuffer.frameBytes]

/-! ## The completion of a reply -/

theorem replyCompletes_of_reply {x : List Byte} {r : ReplyCell} {replies : List ReplyCell}
    (hx : d.arbiter.inTransmission = some (.reply x)) (hr : d.arbiter.replies = r :: replies) :
    d.replyCompletes = takingTest { d with arbiter := ⟨replies, none⟩ } := by
  simp only [replyCompletes, hx, hr, List.drop_one, List.tail_cons]

/-- A command that waits alone is the only one that the taking test takes. -/
theorem takingTest_of_single {c : Command} (hq : d.responder.queue = [c]) (hr : d.responder.reading = none)
    (hl : d.arbiter.replies.length < 4) :
    d.takingTest = runCommand (decodeCommand c) (d.withQueue []) ∧
      (runCommand (decodeCommand c) (d.withQueue [])).responder.queue = [] := by
  have hempty : (runCommand (decodeCommand c) (d.withQueue [])).responder.queue = [] := by
    by_cases hc : c.code = 0x13
    · rw [decodeCommand_restart hc]
      exact runRestart_waiting c.tag _
    · exact runCommand_waiting (decodeCommand_ne_restart hc) (d.withQueue [])
  exact ⟨(d.takingTest_takes.2 c [] hq hr hl).trans (takingTest_of_empty hempty), hempty⟩

end Device

/-- Settles O31: the beginning of each kind of unit, and the taking test that a reply's completion makes. -/
theorem shareEgressPrefersReplies : Obligations.ShareEgressPrefersReplies := by
  intro s r replies b rest f x c waiting
  have hbegin : exec (.shareEgressBegin true) s = .next ⟨s.dev.egressBegins true, s.pending⟩ := rfl
  have hend : exec .replyTxComplete s = .next ⟨s.dev.replyCompletes, s.pending⟩ := rfl
  refine ⟨fun hidle hr => ?_, fun hidle hr ho hb => ?_, fun hx hr => ?_⟩
  · rw [Becomes, hbegin, egressBegins_of_reply hidle hr]
  · rw [Becomes, hbegin, egressBegins_of_frame hidle hr ho hb]
  · intro e
    rw [replyCompletes_of_reply hx hr] at hend
    have htakes := takingTest_takes { s.dev with arbiter := ⟨replies, none⟩ }
    refine ⟨⟨_, hend, htakes⟩, fun hnone => ?_, fun hread hq hlength => ?_⟩
    · rw [Becomes, hend, htakes.1 (hnone.imp_right .inl)]
    · have hone : takingTest { s.dev with arbiter := ⟨replies, none⟩ } = e ∧
          e.responder.queue = if c.code = 0x13 then [] else waiting := by
        rcases hlength with hlast | ⟨hroom, rfl⟩
        · exact takingTest_of_last_place (d := { s.dev with arbiter := ⟨replies, none⟩ }) hq hread hlast
        · rw [ite_self]
          exact takingTest_of_single (d := { s.dev with arbiter := ⟨replies, none⟩ }) hq hread hroom
      obtain ⟨htaken, hqueue⟩ := hone
      rw [htaken] at hend
      exact ⟨hend, hqueue⟩

end Sys2Proof.Machine
end

section
/-! The flush triggers: a pacer expiry and FLUSH build a frame, defer it, or find nothing queued (R141 to R145). -/

namespace Sys2Proof.Machine

open Device

namespace Device

variable {d : Device}

/-! ## The buffer that a build takes -/

theorem freeBuffer_of_lowest {f : ShareFramer} {b : Fin 2} (hempty : f.buffers[b] = .empty)
    (hlower : ∀ c : Fin 2, c < b → f.buffers[c] ≠ .empty) : f.freeBuffer = some b := by
  rw [freeBuffer_eq]
  match b with
  | 0 => exact if_pos hempty
  | 1 => rw [if_neg (hlower 0 (by decide)), if_pos hempty]

theorem freeBuffer_of_full {f : ShareFramer} (h : ∀ c : Fin 2, f.buffers[c] ≠ .empty) : f.freeBuffer = none := by
  rw [freeBuffer_eq, if_neg (h 0), if_neg (h 1)]

/-! ## A flush trigger -/

theorem flushTrigger_of_empty (hq : d.router.shareQueue = []) : d.flushTrigger = d :=
  if_pos (List.isEmpty_iff.mpr hq)

theorem flushTrigger_of_full (hq : d.router.shareQueue ≠ []) (h : d.framer.freeBuffer = none) :
    d.flushTrigger =
      { d with framer := { d.framer with pendingFlush := true, deferredFlushes := satInc d.framer.deferredFlushes } } := by
  rw [flushTrigger, if_neg (mt List.isEmpty_iff.mp hq), if_neg (by simp [h])]

theorem flushTrigger_of_free {b : Fin 2} (hq : d.router.shareQueue ≠ []) (h : d.framer.freeBuffer = some b) :
    d.flushTrigger = d.buildFrame := by
  rw [flushTrigger, if_neg (mt List.isEmpty_iff.mp hq), if_pos (by simp [h])]

/-- A flush trigger, then a period begun at cycle position `c`. -/
def flushedTo (c : BitVec 4) (d : Device) : Device := { d.flushTrigger with framer := d.flushTrigger.framer.beginPeriod c }

theorem flushedTo_of_empty (hq : d.router.shareQueue = []) (c : BitVec 4) :
    d.flushedTo c = { d with framer := d.framer.beginPeriod c } := by
  rw [flushedTo, flushTrigger_of_empty hq]

theorem flushedTo_of_full (hq : d.router.shareQueue ≠ []) (h : d.framer.freeBuffer = none) (c : BitVec 4) :
    d.flushedTo c =
      { d with
        framer :=
          { d.framer.beginPeriod c with pendingFlush := true, deferredFlushes := satInc d.framer.deferredFlushes } } := by
  rw [flushedTo, flushTrigger_of_full hq h]
  rfl

/-- With a buffer free the first six records are framed, and nothing else changes but the pacer. -/
theorem flushedTo_of_free {b : Fin 2} (hq : d.router.shareQueue ≠ []) (h : d.framer.freeBuffer = some b) (c : BitVec 4) :
    d.BuiltFrame b (d.flushedTo c) ∧ (d.flushedTo c).framer.cycle = c ∧
      (d.flushedTo c).framer.timer = some (d.framer.periodAt c) ∧ (d.flushedTo c).framer.state = d.framer.state ∧
      d.flushedTo c = { d with router := (d.flushedTo c).router, framer := (d.flushedTo c).framer } := by
  obtain ⟨hbuilt, hrest, -⟩ := buildFrame_builtOnly h hq
  obtain ⟨-, hstate, -, -, -, -, -, hperiod, hfine⟩ := buildFrame_framed d
  have hflushed : d.flushedTo c = { d.buildFrame with framer := d.buildFrame.framer.beginPeriod c } := by
    rw [flushedTo, flushTrigger_of_free hq h]
  have hlength : d.buildFrame.framer.periodAt c = d.framer.periodAt c := by
    simp only [ShareFramer.periodAt, hperiod, hfine]
  rw [hflushed]
  refine ⟨hbuilt, rfl, congrArg some hlength, hstate, ?_⟩
  rw [hrest]

/-! ## The two triggers -/

theorem pacerExpires_of_due (hs : d.framer.state = .enabled) (ht : d.framer.timer = some 0) :
    d.pacerExpires = d.flushedTo (d.framer.cycle + 1) := by
  rw [pacerExpires_cases, if_pos ⟨hs, ht⟩, (flushTrigger_pacer d).2.1, flushedTo]

theorem flushRecords_of_empty (hq : d.router.shareQueue = []) : d.flushRecords = 0 := by
  simp [flushRecords, canBuild, hq]

theorem flushRecords_of_full (h : d.framer.freeBuffer = none) : d.flushRecords = 0 := by
  simp [flushRecords, canBuild, h]

theorem flushRecords_of_free {b : Fin 2} (hq : d.router.shareQueue ≠ []) (h : d.framer.freeBuffer = some b) :
    d.flushRecords = min 6 d.router.shareQueue.length := by
  simp [flushRecords, canBuild, hq, h, Config.frameRecords]

end Device

theorem runFlush_of_enabled (tag : Word16) {d : Device} (hs : d.framer.state = .enabled) :
    runFlush tag d =
      (d.flushedTo 0).reply tag 0x54 .done [byteNat d.flushRecords, byteBool (d.flushedTo 0).framer.pendingFlush] := by
  unfold runFlush
  rw [hs]
  rfl

/-- Settles O34: both triggers are `flushedTo`, at the next cycle position or at 0, and FLUSH reports it. -/
theorem pacerAndFlushBuildFrames : Obligations.PacerAndFlushBuildFrames := by
  intro s tag b f q period lowest full hs
  have hnone : full → f.freeBuffer = none := freeBuffer_of_full
  have hsome : lowest → f.freeBuffer = some b := fun h => freeBuffer_of_lowest h.1 h.2
  refine ⟨fun ht => ?_, fun hr => ?_⟩
  · have hexpiry : exec .pacerExpiry s = .next ⟨s.dev.flushedTo (f.cycle + 1), s.pending⟩ := by
      rw [← pacerExpires_of_due hs ht]
      rfl
    refine ⟨fun hq => ?_, fun hq hfull => ?_, fun hq hlow => ?_⟩
    · rw [Becomes, hexpiry, flushedTo_of_empty hq]
      rfl
    · rw [Becomes, hexpiry, flushedTo_of_full hq (hnone hfull)]
      rfl
    · obtain ⟨hbuilt, hcycle, htimer, hstate, hrest⟩ := flushedTo_of_free hq (hsome hlow) (f.cycle + 1)
      exact ⟨_, hexpiry, hbuilt, hcycle, htimer, hstate.trans hs, hrest⟩
  · have hrun := runFlush_of_enabled tag hs
    refine ⟨fun hq => answers_of_run rfl hr ?_, fun hq hfull => answers_of_run rfl hr ?_, fun hq hlow => ?_⟩
    · rw [flushRecords_of_empty hq, flushedTo_of_empty hq] at hrun
      exact hrun
    · rw [flushRecords_of_full (hnone hfull), flushedTo_of_full hq (hnone hfull)] at hrun
      exact hrun
    · obtain ⟨hbuilt, hcycle, htimer, hstate, hrest⟩ := flushedTo_of_free hq (hsome hlow) 0
      have ⟨_, _, _, _, _, hflag, _⟩ := hbuilt
      have harbiter : (s.dev.flushedTo 0).arbiter = s.dev.arbiter := by rw [hrest]
      rw [flushRecords_of_free hq (hsome hlow), hflag] at hrun
      refine ⟨_, answers_of_run rfl hr hrun, hbuilt, hcycle, htimer, hstate.trans hs, ?_, ?_, ?_⟩
      · rw [← harbiter]
        rfl
      · rw [← harbiter]
        rfl
      · rw [Device.answered, hrest]

end Sys2Proof.Machine
end

section
/-! The completion of a frame: what the Share Framer does with the freed buffer (R136, R137, R140, R141). -/

namespace Sys2Proof.Machine

open Device

namespace Device

variable {d : Device} {b : Fin 2}

/-- The device once the frame of buffer `b` has gone out: the buffer EMPTY, nothing in transmission (R137, R148). -/
def freed (b : Fin 2) (d : Device) : Device :=
  { d with
    framer := { d.framer with buffers := d.framer.buffers.set b .empty }
    arbiter := { d.arbiter with inTransmission := none } }

theorem frameCompletes_of_frame {x : List Byte} (h : d.arbiter.inTransmission = some (.frame b x)) :
    d.frameCompletes = (d.freed b).takeFreedBuffer := by
  simp only [frameCompletes, h, freed]

theorem takeFreedBuffer_of_disabled (h : d.framer.state = .disabled) : d.takeFreedBuffer = d := by
  simp only [takeFreedBuffer, h]

theorem takeFreedBuffer_of_draining (h : d.framer.state = .draining) : d.takeFreedBuffer = d.drain := by
  simp only [takeFreedBuffer, h]

theorem takeFreedBuffer_of_enabled (h : d.framer.state = .enabled) :
    d.takeFreedBuffer = (if d.framer.pendingFlush then d.buildFrame else d).sixRecordTrigger := by
  simp only [takeFreedBuffer, h]

/-- A build without a record is none. -/
theorem buildFrame_of_empty (hq : d.router.shareQueue = []) : d.buildFrame = d := by
  unfold buildFrame
  split
  · rfl
  · exact if_pos (List.isEmpty_iff.mpr hq)

theorem takeFreedBuffer_of_unflushed (h : d.framer.state = .enabled) (hf : d.framer.pendingFlush = false ∨ d.router.shareQueue = []) :
    d.takeFreedBuffer = d.sixRecordTrigger := by
  rw [takeFreedBuffer_of_enabled h]
  rcases hf with hf | hq
  · rw [if_neg (Bool.eq_false_iff.mp hf)]
  · rw [buildFrame_of_empty hq, ite_self]

theorem takeFreedBuffer_of_flush (h : d.framer.state = .enabled) (hf : d.framer.pendingFlush = true) :
    d.takeFreedBuffer = d.buildFrame.sixRecordTrigger := by
  rw [takeFreedBuffer_of_enabled h, if_pos hf]

/-! ## One buffer free -/

/-- With some buffer EMPTY the lowest is buffer 0 or, where that is in use, buffer 1. -/
theorem freeBuffer_of_some (hb : d.framer.buffers[b] = .empty) :
    d.framer.freeBuffer = some (if d.framer.buffers[(0 : Fin 2)] = .empty then 0 else 1) := by
  rw [freeBuffer_eq]
  split
  · rfl
  · next h0 =>
    have hb1 : b = 1 := Fin.eq_one_of_ne_zero b fun h => h0 (h ▸ hb)
    exact if_pos (hb1 ▸ hb)

theorem freeBuffer_of_only (hb : d.framer.buffers[b] = .empty) (ho : ∀ c : Fin 2, c ≠ b → d.framer.buffers[c] ≠ .empty) :
    d.framer.freeBuffer = some b := freeBuffer_of_lowest hb fun c hc => ho c (Fin.ne_of_lt hc)

/-- A build into the only EMPTY buffer leaves none. -/
theorem buildFrame_freeBuffer_of_only (hb : d.framer.buffers[b] = .empty)
    (ho : ∀ c : Fin 2, c ≠ b → d.framer.buffers[c] ≠ .empty) (hq : d.router.shareQueue ≠ []) :
    d.buildFrame.framer.freeBuffer = none := by
  obtain ⟨hbuilt, -⟩ := buildFrame_builtOnly (freeBuffer_of_only hb ho) hq
  refine freeBuffer_of_full fun c => ?_
  by_cases hc : c = b
  · rw [hc]
    exact hbuilt.buffer_ne
  · obtain ⟨-, hothers, -⟩ := hbuilt
    rw [hothers c hc]
    exact ho c hc

theorem sixRecordTrigger_of_full (h : d.framer.freeBuffer = none) : d.sixRecordTrigger = d := by
  unfold sixRecordTrigger
  split
  · exact buildWhile_stop 2 (.inr h)
  · rfl

/-- With one buffer EMPTY at most one frame is built. -/
theorem buildWhile_of_only (hb : d.framer.buffers[b] = .empty) (ho : ∀ c : Fin 2, c ≠ b → d.framer.buffers[c] ≠ .empty)
    {least : Nat} (hl : 1 ≤ least) (hq : least ≤ d.router.shareQueue.length) : buildWhile least 2 d = d.buildFrame := by
  have hne : d.router.shareQueue ≠ [] := List.ne_nil_of_length_pos (hl.trans hq)
  rw [buildWhile_step 1 (freeBuffer_of_only hb ho) hl hq, buildWhile_stop 1 (.inr (buildFrame_freeBuffer_of_only hb ho hne))]

/-! ## The end of DRAINING -/

/-- A buffer in use keeps a draining on (R136). -/
theorem endDraining_of_used {c : Fin 2} (hc : d.framer.buffers[c] ≠ .empty) : d.endDraining = d := by
  refine if_neg fun h => ?_
  obtain ⟨-, -, hempty⟩ := h
  obtain ⟨h0, h1⟩ := Bool.and_eq_true_iff.mp hempty
  match c with
  | 0 => exact hc (isFree_iff.mp h0)
  | 1 => exact hc (isFree_iff.mp h1)

theorem endDraining_of_done (hs : d.framer.state = .draining) (hq : d.router.shareQueue = [])
    (hempty : ∀ c : Fin 2, d.framer.buffers[c] = .empty) :
    d.endDraining = { d with framer := { d.framer with state := .disabled }, notices := d.notices.post .shareDrained none } :=
  if_pos ⟨hs, List.isEmpty_iff.mpr hq, Bool.and_eq_true_iff.mpr ⟨isFree_iff.mpr (hempty 0), isFree_iff.mpr (hempty 1)⟩⟩

theorem drain_of_empty (hq : d.router.shareQueue = []) : d.drain = d.endDraining := by
  rw [drain, buildWhile_stop 2 (.inl (by simp [hq]))]

/-- With one buffer EMPTY, and the records that call for a frame, the freed buffer takes one frame. -/
theorem takeFreedBuffer_of_only (hb : d.framer.buffers[b] = .empty) (ho : ∀ c : Fin 2, c ≠ b → d.framer.buffers[c] ≠ .empty)
    (hq : d.router.shareQueue ≠ [])
    (h : d.framer.state = .enabled ∧ (d.framer.pendingFlush = true ∨ 6 ≤ d.router.shareQueue.length) ∨ d.framer.state = .draining) :
    d.takeFreedBuffer = d.buildFrame := by
  have hfull := buildFrame_freeBuffer_of_only hb ho hq
  rcases h with ⟨hs, hcall⟩ | hs
  · by_cases hf : d.framer.pendingFlush = true
    · rw [takeFreedBuffer_of_flush hs hf, sixRecordTrigger_of_full hfull]
    · have hsix := hcall.resolve_left hf
      rw [takeFreedBuffer_of_unflushed hs (.inl (Bool.eq_false_iff.mpr hf)), sixRecordTrigger, if_pos hs]
      exact buildWhile_of_only hb ho (by decide) hsix
  · obtain ⟨hbuilt, -⟩ := buildFrame_builtOnly (freeBuffer_of_only hb ho) hq
    rw [takeFreedBuffer_of_draining hs, drain, buildWhile_of_only hb ho (Nat.le_refl 1) (List.length_pos_iff.mpr hq),
      endDraining_of_used hbuilt.buffer_ne]

end Device

/-- Settles O33, by the share state that the freed buffer meets and by what the other buffer holds. -/
theorem freedBufferTakesWaitingRecords : Obligations.FreedBufferTakesWaitingRecords := by
  intro s b c x f q d hx hcb
  have hend : exec .frameTxComplete s = .next ⟨s.dev.frameCompletes, s.pending⟩ := rfl
  rw [frameCompletes_of_frame hx] at hend
  change exec .frameTxComplete s = .next ⟨d.takeFreedBuffer, s.pending⟩ at hend
  have hfreed : d.framer.buffers[b] = .empty := Vector.getElem_set_self b.isLt
  have hother : d.framer.buffers[c] = f.buffers[c] := Vector.getElem_set_ne b.isLt c.isLt fun h => hcb (Fin.ext h.symm)
  have honly : ∀ k : Fin 2, k ≠ b → k = c := by omega
  refine ⟨fun h => ?_, fun (hs : d.framer.state = _) hf => ?_, fun (hs : d.framer.state = _) hf hq => ?_,
    fun (hs : d.framer.state = _) => ?_, fun hc hq h => ?_, fun hc hq (hs : d.framer.state = _) => ?_⟩
  · have hkept : d.takeFreedBuffer = d := by
      rcases h with hs | ⟨(hs : d.framer.state = _), hshort, hf⟩ | ⟨(hs : d.framer.state = _), hq, hc⟩
      · exact takeFreedBuffer_of_disabled hs
      · rw [takeFreedBuffer_of_unflushed hs hf]
        exact sixRecordTrigger_of_short hshort
      · rw [takeFreedBuffer_of_draining hs, drain_of_empty (d := d) hq]
        exact endDraining_of_used (hother ▸ hc)
    rw [Becomes, hend, hkept]
  · rw [takeFreedBuffer_of_unflushed hs hf] at hend
    exact ⟨_, hend, sixRecordTrigger_filled d⟩
  · rw [takeFreedBuffer_of_flush hs hf] at hend
    have hfree : d.framer.freeBuffer = some (if d.framer.buffers[(0 : Fin 2)] = .empty then 0 else 1) := freeBuffer_of_some hfreed
    exact ⟨_, hend, _, buildFrame_builtOnly hfree hq, sixRecordTrigger_filled _⟩
  · rw [takeFreedBuffer_of_draining hs] at hend
    exact ⟨_, hend, drain_drained hs⟩
  · have hused : ∀ k : Fin 2, k ≠ b → d.framer.buffers[k] ≠ .empty := fun k hk => by rwa [honly k hk, hother]
    obtain ⟨hbuilt, hrest, -⟩ := buildFrame_builtOnly (freeBuffer_of_only hfreed hused) hq
    obtain ⟨-, hstate, htimer, hcycle, -⟩ := buildFrame_framed d
    rw [takeFreedBuffer_of_only hfreed hused hq h] at hend
    exact ⟨_, hend, hbuilt, hstate, htimer, hcycle, hrest⟩
  · have hempty : ∀ k : Fin 2, d.framer.buffers[k] = .empty := fun k => by
      by_cases hk : k = b
      · rwa [hk]
      · rwa [honly k hk, hother]
    rw [Becomes, hend, takeFreedBuffer_of_draining hs, drain_of_empty (d := d) hq, endDraining_of_done hs hq hempty]

end Sys2Proof.Machine
end

section
/-! Every step keeps the share path in order (R132, R134, R136, R142). -/

namespace Sys2Proof.Machine

open Device

/-- The share state, whether the pacer runs, and whether the identity is written. -/
def Device.shareMode (d : Device) := (d.framer.state, d.framer.timer.isSome, d.framer.written)

/-- Whether some stroke is share-live. -/
def Router.anyShareLive (r : Router) : Bool := r.deliveries.any (·.shareLive)

/-- All that the promises of the share path look at. -/
def Device.shareView (d : Device) :=
  (d.shareMode, d.framer.pendingFlush, d.framer.cycle, d.router.anyShareLive, d.router.shareQueue, d.framer.buffersEmpty)

/-- The share mode is kept, and outside ENABLED, with no stroke share-live, so is everything that the promises look at. -/
def Device.ShareKept (d e : Device) : Prop :=
  e.shareMode = d.shareMode ∧
  (d.framer.state ≠ .enabled → d.router.anyShareLive = false → e.shareView = d.shareView)

/-- DRAINING in order, but for the test of its end. -/
def Device.DrainsOn (d : Device) : Prop :=
  d.shareMode = (.draining, false, true) ∧ d.framer.pendingFlush = false ∧ d.framer.cycle = 0 ∧
  d.router.anyShareLive = false

theorem Router.mapDelivery_anyShareLive (r : Router) (id : Word16) {f : Delivery → Delivery} (hf : ∀ v, (f v).shareLive = v.shareLive) :
    (r.mapDelivery id f).anyShareLive = r.anyShareLive := by
  unfold anyShareLive mapDelivery
  rw [List.any_map]
  congr 1
  funext v
  show (if v.id = id then f v else v).shareLive = v.shareLive
  split
  · exact hf v
  · rfl

theorem Router.offerOverlaySeg_anyShareLive (s : SegRecord) (r : Router) : (r.offerOverlaySeg s).anyShareLive = r.anyShareLive := by
  unfold offerOverlaySeg
  split
  · rfl
  · split
    · exact mapDelivery_anyShareLive _ _ fun _ => rfl
    · exact mapDelivery_anyShareLive _ _ fun _ => rfl

/-- Where no stroke is share-live, a delivery record that is found is not. -/
theorem Router.delivery_shareLive {r : Router} {id : Word16} {v : Delivery} (h : r.delivery id = some v)
    (hl : r.anyShareLive = false) : v.shareLive = false :=
  Bool.eq_false_iff.mpr (List.any_eq_false.mp hl v (List.mem_of_find?_eq_some h))

namespace Device

variable {placed : Prop} {d e : Device}

/-! ## What the promises look at -/

theorem unshared_iff : d.router.anyShareLive = false ↔ ∀ v ∈ d.router.deliveries, v.shareLive = false := by
  simp only [Router.anyShareLive, List.any_eq_false, Bool.not_eq_true]

theorem shareView_eq (hr : e.router = d.router) (hf : e.framer = d.framer) : e.shareView = d.shareView := by
  simp only [shareView, shareMode, hr, hf]

theorem shareView_parts (h : e.shareView = d.shareView) :
    e.shareMode = d.shareMode ∧ e.framer.pendingFlush = d.framer.pendingFlush ∧ e.framer.cycle = d.framer.cycle ∧
      e.router.anyShareLive = d.router.anyShareLive ∧ e.router.shareQueue = d.router.shareQueue ∧
      e.framer.buffersEmpty = d.framer.buffersEmpty := by
  simpa only [shareView, Prod.mk.injEq] using h

theorem shareMode_parts {st : ShareState} {t w : Bool} (h : d.shareMode = (st, t, w)) :
    d.framer.state = st ∧ d.framer.timer.isSome = t ∧ d.framer.written = w := by
  simpa only [shareMode, Prod.mk.injEq] using h

theorem shareSound_of_shareView (h : e.shareView = d.shareView) (k : d.ShareSound) : e.ShareSound := by
  obtain ⟨hmode, hflush, hcycle, hlive, hqueue, hbuffers⟩ := shareView_parts h
  obtain ⟨hstate, htimer, hwritten⟩ := shareMode_parts hmode
  unfold ShareSound at k ⊢
  rw [← unshared_iff] at k ⊢
  rwa [hstate, htimer, hwritten, hflush, hcycle, hlive, hqueue, hbuffers]

/-- In ENABLED the promises are that the pacer runs and that the identity is written. -/
theorem shareSound_iff_of_enabled (h : d.framer.state = .enabled) : d.ShareSound ↔ d.shareMode = (.enabled, true, true) := by
  simp [ShareSound, shareMode, h]

theorem shareSound_of_enabled (h : d.framer.state = .enabled) (hm : e.shareMode = d.shareMode) (k : d.ShareSound) : e.ShareSound := by
  rw [shareSound_iff_of_enabled h, ← hm] at k
  exact (shareSound_iff_of_enabled (congrArg Prod.fst k)).mpr k

/-! ## What an operation of a stroke keeps -/

theorem ShareKept.shareSound (h : d.ShareKept e) (k : d.ShareSound) : e.ShareSound := by
  by_cases hs : d.framer.state = .enabled
  · exact shareSound_of_enabled hs h.1 k
  · have ⟨_, hoff, _⟩ := k
    exact shareSound_of_shareView (h.2 hs (unshared_iff.mpr (hoff hs).1)) k

theorem ShareKept.of_shareView (h : e.shareView = d.shareView) : d.ShareKept e := ⟨congrArg Prod.fst h, fun _ _ => h⟩

theorem ShareKept.trans {f : Device} (h : d.ShareKept e) (k : e.ShareKept f) : d.ShareKept f := by
  refine ⟨k.1.trans h.1, fun hs hl => ?_⟩
  have hview := h.2 hs hl
  have ⟨hmode, _, _, hlive, _⟩ := shareView_parts hview
  have hstate : e.framer.state = d.framer.state := congrArg Prod.fst hmode
  exact (k.2 (hstate ▸ hs) (hlive.trans hl)).trans hview

theorem Framed.shareMode (h : d.Framed e) : e.shareMode = d.shareMode := by
  obtain ⟨-, hstate, htimer, -, hwritten, -⟩ := h
  unfold Device.shareMode
  rw [hstate, htimer, hwritten]

/-- Outside ENABLED the six-record trigger does nothing. -/
theorem sixRecordTrigger_shareKept (d : Device) : d.ShareKept d.sixRecordTrigger :=
  ⟨(sixRecordTrigger_framed d).shareMode, fun hs _ => congrArg shareView (if_neg hs)⟩

/-- A stroke becomes share-live in ENABLED alone. -/
theorem routeOpen_shareKept (o : OpenRecord) (st : Steering) (d : Device) : d.ShareKept (d.routeOpen o st) := by
  unfold routeOpen
  extract_lets r oa oi sa si orf srf v d1 d2 d3
  have h1 : d.ShareKept d1 := by
    refine ⟨rfl, fun hs hl => ?_⟩
    have hsi : si = false := by simp [si, sa, hs]
    simp only [Router.anyShareLive] at hl
    simp [shareView, shareMode, Router.anyShareLive, d1, v, r, hsi, hl]
  have h3 : d3.shareView = d1.shareView :=
    ite_keeps (f := shareView) (c := srf = true) (ite_keeps (f := shareView) (c := orf = true) rfl rfl)
      (ite_keeps (f := shareView) (c := orf = true) rfl rfl)
  have h : d.ShareKept d3 := h1.trans (.of_shareView h3)
  split
  · exact h.trans (sixRecordTrigger_shareKept d3)
  · exact h

theorem offerShareSeg_shareMode (i : Slot) (s : SegRecord) (d : Device) : (d.offerShareSeg i s).shareMode = d.shareMode :=
  ite_keeps (f := shareMode) (sixRecordTrigger_framed { d with router := _ }).shareMode rfl

/-- A SEG of a stroke that is not share-live passes the share side by. -/
theorem routeSeg_shareKept (i : Slot) (s : SegRecord) (d : Device) : d.ShareKept (d.routeSeg i s) := by
  unfold routeSeg
  split
  · exact .of_shareView rfl
  · next v hv =>
    extract_lets d1
    have hoverlay : Device.shareView { d with router := d.router.offerOverlaySeg s } = d.shareView := by
      simp only [shareView, Router.offerOverlaySeg_anyShareLive, (offerOverlaySeg_rest s d.router).1]
      rfl
    have h1 : d1.shareView = d.shareView := ite_keeps (f := shareView) hoverlay rfl
    split
    · next hlive =>
      refine ⟨(offerShareSeg_shareMode i s d1).trans (congrArg Prod.fst h1), fun _ hl => ?_⟩
      rw [Router.delivery_shareLive hv hl] at hlive
      exact absurd hlive Bool.false_ne_true
    · exact .of_shareView h1

/-- A CLOSE of a stroke that is not share-live passes the share side by. -/
theorem routeClose_shareKept (id n : Word16) (reason : CloseReason) (gap : Bool) (time : Word16) (d : Device) :
    d.ShareKept (d.routeClose id n reason gap time) := by
  unfold routeClose
  extract_lets r
  split
  · exact .of_shareView rfl
  · next v hv =>
    extract_lets oc sc d1
    have h1 : d.ShareKept d1 := by
      refine ⟨rfl, fun _ hl => ?_⟩
      have hrest : Router.anyShareLive d1.router = false :=
        List.any_eq_false.mpr fun u hu => List.any_eq_false.mp hl u (List.mem_of_mem_filter hu)
      have hqueue : d1.router.shareQueue = d.router.shareQueue :=
        if_neg (by rw [Router.delivery_shareLive hv hl]; exact Bool.false_ne_true)
      simp only [shareView, hrest, hl, hqueue]
      rfl
    split
    · exact h1.trans (sixRecordTrigger_shareKept d1)
    · exact h1

theorem openStroke_shareKept (i : Slot) (q : OpenRequest) (d : Device) : d.ShareKept (d.openStroke i q) :=
  .trans (e := d.beforeRouting i q) (.of_shareView rfl) (routeOpen_shareKept _ _ _)

theorem emitSeg_shareKept (i : Slot) (p : Point) (w : Byte) (time : Word32) (d : Device) : d.ShareKept (d.emitSeg i p w time) :=
  .trans (e := d.setContext i _) (.of_shareView rfl) (routeSeg_shareKept _ _ _)

theorem closeStroke_shareKept (i : Slot) (reason : CloseReason) (time : Word32) (d : Device) :
    d.ShareKept (d.closeStroke i reason time) := by
  cases ho : (d.context i).isOpen with
  | false =>
    rw [closeStroke_of_closed ho]
    exact .of_shareView rfl
  | true =>
    obtain ⟨-, -, hrouter, hframer, -⟩ := closeStroke_closed ho reason time
    exact .trans (routeClose_shareKept _ _ _ _ _ d) (.of_shareView (shareView_eq hrouter hframer))

/-! ## DRAINING -/

theorem buildFrame_pendingFlush (h : d.framer.pendingFlush = false) : d.buildFrame.framer.pendingFlush = false := by
  unfold buildFrame
  split
  · exact h
  · split
    · exact h
    · rfl

theorem DrainsOn.buildFrame (h : d.DrainsOn) : d.buildFrame.DrainsOn := by
  obtain ⟨hmode, hflush, hcycle, hlive⟩ := h
  have hf := buildFrame_framed d
  have ⟨hrouter, _, _, hcycle', _⟩ := hf
  refine ⟨hf.shareMode.trans hmode, buildFrame_pendingFlush hflush, hcycle'.trans hcycle, ?_⟩
  rw [hrouter]
  exact hlive

theorem DrainsOn.buildWhile (h : d.DrainsOn) (least n : Nat) : (Device.buildWhile least n d).DrainsOn := by
  induction n generalizing d with
  | zero => exact h
  | succ n ih =>
    unfold Device.buildWhile
    split
    · exact ih h.buildFrame
    · exact h

theorem drainsOn_of_shareSound (hs : d.framer.state = .draining) (h : d.ShareSound) : d.DrainsOn := by
  obtain ⟨hpacer, hoff, -, -, hwritten⟩ := h
  have hne : d.framer.state ≠ .enabled := by rw [hs]; exact nofun
  obtain ⟨hlive, hflush, hcycle⟩ := hoff hne
  have htimer : d.framer.timer.isSome = false := Bool.eq_false_iff.mpr (mt hpacer.mp hne)
  refine ⟨?_, hflush, hcycle, unshared_iff.mpr hlive⟩
  rw [shareMode, hs, htimer, hwritten (by rw [hs]; exact nofun)]

/-- The test of its end leaves a draining with something left to send, or none (R136). -/
theorem DrainsOn.drain_shareSound (h : d.DrainsOn) : d.drain.ShareSound := by
  obtain ⟨hmode, hflush, hcycle, hlive⟩ := h.buildWhile 1 2
  obtain ⟨hstate, htimer, hwritten⟩ := shareMode_parts hmode
  rw [unshared_iff] at hlive
  unfold drain endDraining
  split
  · next hend =>
    obtain ⟨-, hqueue, -⟩ := hend
    exact ⟨iff_of_false (by simp [htimer]) nofun, fun _ => ⟨hlive, hflush, hcycle⟩, fun _ => List.isEmpty_iff.mp hqueue, nofun,
      fun h => absurd rfl h⟩
  · next hend =>
    refine ⟨iff_of_false (by simp [htimer]) (by simp [hstate]), fun _ => ⟨hlive, hflush, hcycle⟩, fun h => ?_,
      fun _ hempty => hend ⟨hstate, List.isEmpty_iff.mpr hempty.1, hempty.2⟩, fun _ => hwritten⟩
    rw [hstate] at h
    cases h

/-- The delivery records are distinct by their strokes' ids, said of their bonds. -/
theorem pairwise_bonds : d.router.bonds.Pairwise (fun b c => b.1 ≠ c.1) ↔ d.router.deliveries.Pairwise fun u v => u.id ≠ v.id := by
  simp only [Router.bonds, List.pairwise_map, Delivery.bond]

/-- The SHARE_OFF close of one slot: what is share-live afterwards was so before, and is not of that slot's stroke (R127). -/
theorem shareOffClose_live {i : Slot} {u : Delivery} (hone : d.router.bonds.Pairwise fun b c => b.1 ≠ c.1)
    (hu : u ∈ (d.shareOffClose i).router.deliveries) (hl : u.shareLive = true) :
    u ∈ d.router.deliveries ∧ ¬((d.context i).isOpen = true ∧ (d.context i).id = u.id) := by
  unfold shareOffClose at hu
  extract_lets k at hu
  split at hu
  · next hnone => exact ⟨hu, fun h => by simpa [k, h.2] using List.find?_eq_none.mp hnone u hu⟩
  · next v hv =>
    split at hu
    · obtain ⟨w, hw, rfl⟩ := List.mem_map.mp hu
      by_cases hid : w.id = k.id
      · rw [if_pos hid] at hl
        cases hl
      · rw [if_neg hid]
        exact ⟨hw, fun h => hid h.2.symm⟩
    · next hnot =>
      refine ⟨hu, fun ⟨ho, hid⟩ => hnot ?_⟩
      have hvid : v.id = k.id := by simpa using List.find?_some (Option.mem_def.mp hv)
      have huv : u = v := List.inj_on_of_nodup_map (List.pairwise_map.mpr (pairwise_bonds.mp hone)) hu (List.mem_of_find?_eq_some hv)
        (hid.symm.trans hvid.symm)
      rw [← huv, hl, Bool.and_true]
      exact ho

/-- So is it after the closes of several slots. -/
theorem shareOffCloses_live {u : Delivery} {l : List Slot} (hone : d.router.bonds.Pairwise fun b c => b.1 ≠ c.1)
    (hu : u ∈ (l.foldl shareOffClose d).router.deliveries) (hl : u.shareLive = true) :
    u ∈ d.router.deliveries ∧ ∀ i ∈ l, ¬((d.context i).isOpen = true ∧ (d.context i).id = u.id) := by
  induction l generalizing d with
  | nil => exact ⟨hu, nofun⟩
  | cons i l ih =>
    obtain ⟨hmem, hothers⟩ := ih ((shareOffClose_bonds d i).symm ▸ hone) hu
    obtain ⟨hmem, hself⟩ := shareOffClose_live hone hmem hl
    refine ⟨hmem, List.forall_mem_cons.mpr ⟨hself, fun j hj => ?_⟩⟩
    have hcontext := context_of_roll (shareOffClose_roll d i) j
    rw [← hcontext.1, ← hcontext.2]
    exact hothers j hj

theorem shareOff_eq (d : Device) : d.shareOff = allSlots.foldl shareOffClose d := rfl

/-- With a delivery record for each open stroke and no other, a share disable leaves no stroke share-live (R127, R132). -/
theorem shareOff_unshared (h : d.DeliveriesSound) : d.shareOff.router.anyShareLive = false := by
  obtain ⟨hone, howned, -⟩ := h
  refine unshared_iff.mpr fun u hu => Bool.eq_false_iff.mpr fun hl => ?_
  rw [shareOff_eq] at hu
  obtain ⟨hmem, hnone⟩ := shareOffCloses_live (pairwise_bonds.mpr hone) hu hl
  exact hnone u.slot (mem_allSlots _) (howned u hmem)

theorem shareOffClose_framer (d : Device) (i : Slot) : (d.shareOffClose i).framer = d.framer := by
  unfold shareOffClose
  extract_lets k
  split
  · rfl
  · exact ite_keeps (f := framer) rfl rfl

theorem shareOff_framer (d : Device) : d.shareOff.framer = d.framer := by
  rw [shareOff_eq]
  exact fold_keeps (f := framer) shareOffClose_framer allSlots d

theorem shareOff_drainsOn (hmode : d.shareMode = (.draining, false, true)) (hflush : d.framer.pendingFlush = false)
    (hcycle : d.framer.cycle = 0) (hd : d.DeliveriesSound) : d.shareOff.DrainsOn := by
  refine ⟨?_, ?_, ?_, shareOff_unshared hd⟩
  · rw [shareMode, shareOff_framer]
    exact hmode
  · rw [shareOff_framer, hflush]
  · rw [shareOff_framer, hcycle]

theorem disableShare_shareSound (hs : d.framer.state = .enabled) (hd : d.DeliveriesSound) (h : d.ShareSound) :
    d.disableShare.ShareSound := by
  obtain ⟨-, -, hwritten⟩ := shareMode_parts ((shareSound_iff_of_enabled hs).mp h)
  unfold disableShare
  extract_lets g f
  refine DrainsOn.drain_shareSound (shareOff_drainsOn (d := { d with framer := f }) ?_ rfl rfl hd)
  simp only [shareMode, f, g, ShareFramer.stopPacer, hwritten, Option.isSome_none]

/-! ## The rest of the share path -/

theorem flushedTo_shareSound (hs : d.framer.state = .enabled) (h : d.ShareSound) (c : BitVec 4) : (d.flushedTo c).ShareSound := by
  have hmode : d.flushTrigger.shareMode = d.shareMode :=
    ite_keeps (f := shareMode) rfl (ite_keeps (f := shareMode) (buildFrame_framed d).shareMode rfl)
  rw [(shareSound_iff_of_enabled hs).mp h] at hmode
  obtain ⟨hstate, -, hwritten⟩ := shareMode_parts hmode
  have hstate' : (d.flushedTo c).framer.state = .enabled := hstate
  refine (shareSound_iff_of_enabled hstate').mpr ?_
  simp only [shareMode, flushedTo, ShareFramer.beginPeriod, hstate, hwritten, Option.isSome_some]

/-- A frame that begins leaves its buffer in use (R137). -/
theorem begun_isFree (b : FrameBuffer) : b.begun.isFree = b.isFree := by cases b <;> rfl

theorem buffersEmpty_set {f : ShareFramer} {b : Fin 2} {x : FrameBuffer} {l : List (Fin 2)} (h : x.isFree = f.buffers[b].isFree) :
    ShareFramer.buffersEmpty { f with buffers := f.buffers.set b x, heldOrder := l } = f.buffersEmpty := by
  have hfree : ∀ c : Fin 2, (f.buffers.set b x)[c].isFree = f.buffers[c].isFree := fun c => by
    by_cases hc : c = b
    · subst hc
      exact (congrArg FrameBuffer.isFree (Vector.getElem_set_self c.isLt)).trans h
    · exact congrArg FrameBuffer.isFree (Vector.getElem_set_ne b.isLt c.isLt fun k => hc (Fin.ext k.symm))
  exact congrArg₂ Bool.and (hfree 0) (hfree 1)

theorem egressBegins_shareView (ready : Bool) (d : Device) : (d.egressBegins ready).shareView = d.shareView := by
  have hframe : d.frameBegins.shareView = d.shareView := by
    unfold frameBegins
    split
    · rfl
    · simp only [shareView, shareMode, buffersEmpty_set (begun_isFree _)]
  unfold egressBegins
  repeat' split
  · rfl
  · exact hframe
  · rfl

/-- A freed buffer changes no promise but that of a draining, whose end is tested again. -/
theorem frameCompletes_shareSound (h : d.ShareSound) : d.frameCompletes.ShareSound := by
  unfold frameCompletes
  split
  · next b _ _ =>
    show (d.freed b).takeFreedBuffer.ShareSound
    cases hs : d.framer.state with
    | enabled =>
      rw [takeFreedBuffer_of_enabled (d := d.freed b) hs]
      refine shareSound_of_enabled hs ((sixRecordTrigger_framed _).shareMode.trans ?_) h
      exact ite_keeps (f := shareMode) (buildFrame_framed (d.freed b)).shareMode rfl
    | draining =>
      have hdrains : d.DrainsOn := drainsOn_of_shareSound hs h
      rw [takeFreedBuffer_of_draining (d := d.freed b) hs]
      exact DrainsOn.drain_shareSound (d := d.freed b) hdrains
    | disabled =>
      obtain ⟨hpacer, hoff, hqueue, -, hwritten⟩ := h
      rw [takeFreedBuffer_of_disabled (d := d.freed b) hs]
      refine ⟨hpacer, hoff, hqueue, fun k => ?_, hwritten⟩
      cases hs.symm.trans k
  · exact h

theorem restarted_shareSound (d : Device) : d.restarted.ShareSound :=
  ⟨⟨nofun, nofun⟩, fun _ => ⟨nofun, rfl, rfl⟩, fun _ => rfl, nofun, fun h => absurd rfl h⟩

/-! ## Every operation -/

theorem InkMove.shareSound (m : InkMove placed d e) (hd : d.DeliveriesSound) (h : d.ShareSound) : e.ShareSound := by
  cases m with
  | start _ q => exact (openStroke_shareKept _ q d).shareSound h
  | emit i p width stamp => exact (emitSeg_shareKept i p width stamp d).shareSound h
  | close i reason time => exact (closeStroke_shareKept i reason time d).shareSound h
  | disable hs => exact disableShare_shareSound hs hd h
  | flush hs c => exact flushedTo_shareSound hs h c
  | frameEnd => exact frameCompletes_shareSound h
  | restart => exact restarted_shareSound d
  | reset v =>
    rw [hardResetDevice_eq]
    exact shareSound_of_shareView (d := Device.reset) rfl reset_shareSound
  | enable _ hw => exact (shareSound_iff_of_enabled rfl).mpr (by rw [shareMode]; exact congrArg (fun w => (_, true, w)) hw)
  | identify _ c b =>
    obtain ⟨hpacer, hoff, hqueue, hleft, -⟩ := h
    exact ⟨hpacer, hoff, hqueue, hleft, fun _ => rfl⟩
  | aside hp =>
    simp only [inkPath, Prod.mk.injEq] at hp
    exact shareSound_of_shareView (shareView_eq hp.2.1 hp.2.2) h
  | egressBegin ready => exact shareSound_of_shareView (egressBegins_shareView ready d) h
  | overlayBegin ready => exact shareSound_of_shareView (by unfold overlayBegins; split <;> rfl) h
  | overlayEnd => exact shareSound_of_shareView (ite_keeps (f := shareView) rfl rfl) h
  | clearItem g n => exact shareSound_of_shareView (by unfold Device.clearItem; split <;> rfl) h
  | tick => exact shareSound_of_shareView (by simp only [shareView, shareMode, Device.tick, tickTimer, Option.isSome_map]; rfl) h
  | laneGap | pacing | clear => exact shareSound_of_shareView rfl h

theorem InkMoves.shareSound (hp : placed) (m : InkMoves placed d e) (hs : d.IdsSound) (hd : d.DeliveriesSound) (h : d.ShareSound) :
    e.ShareSound := by
  induction m with
  | refl => exact h
  | tail m hm ih => exact hm.shareSound ((InkMoves.idsSound_deliveriesSound hp m hs).2 hd) ih

end Device

/-- Settles O57: a step is a chain of operations on the ink path, and each of them keeps the share path in order. -/
theorem sharePathStaysSound : Obligations.SharePathStaysSound := fun _ _ h hslots hids hd =>
  InkMoves.shareSound hslots (step_inkMoves h) hids hd

end Sys2Proof.Machine
end

section
/-! The bytes of reply cells and share frames: lengths, fields and check codes (R180, R181, Figures 11-4 and 11-5). -/

namespace Sys2Proof

/-! ## Data with its check code behind it -/

/-- Data with its CRC-8 behind it has the CRC-8 0. -/
theorem crc8_append_crc8 (l : List Byte) : crc8 (l ++ [crc8 l]) = 0 := by
  have hself : ∀ c, crc8Step c c = 0 := fun c => by rw [crc8Step, BitVec.xor_self]; rfl
  rw [crc8, List.foldl_append]
  exact hself _

/-- Shifts that no 1 leaves at the top do not meet the polynomial. -/
theorem crc16Shift_iterate {r : Word16} {k : Nat} (h : r.toNat * 2 ^ k < 2 ^ 16) : crc16Shift^[k] r = r <<< k := by
  induction k with
  | zero => exact (BitVec.shiftLeft_zero r).symm
  | succ k ih =>
    rw [Nat.pow_succ, ← Nat.mul_assoc] at h
    have hlow : (r <<< k).toNat = r.toNat * 2 ^ k := by
      rw [BitVec.toNat_shiftLeft, Nat.shiftLeft_eq]
      exact Nat.mod_eq_of_lt (by omega)
    have htop : (r <<< k).msb = false := BitVec.msb_eq_false_iff_two_mul_lt.mpr (by rw [hlow]; omega)
    rw [Function.iterate_succ_apply', ih (by omega), crc16Shift, htop, BitVec.shiftLeft_add]
    rfl

/-- The register's high byte cancels itself, and the low byte moves up. -/
theorem crc16Step_high (a b : Byte) : crc16Step (a ++ b) a = b ++ 0#8 := by
  have hcancel : (a ++ b) ^^^ (a ++ 0#8) = 0#8 ++ b := by
    rw [BitVec.xor_append, BitVec.xor_self, BitVec.xor_zero]
  have hlow : (0#8 ++ b).toNat = b.toNat := by
    rw [Machine.toNat_append_add, BitVec.toNat_zero, Nat.mul_zero, Nat.add_zero]
  rw [crc16Step, hcancel]
  refine (crc16Shift_iterate (by rw [hlow]; omega)).trans (BitVec.eq_of_toNat_eq ?_)
  rw [BitVec.toNat_shiftLeft, hlow, Nat.shiftLeft_eq, Machine.toNat_append_add, BitVec.toNat_zero]
  omega

/-- So does what is left of the register. -/
theorem crc16Step_low (b : Byte) : crc16Step (b ++ 0#8) b = 0 := by
  rw [crc16Step, BitVec.xor_self]
  rfl

/-- Data with its CRC-16 behind it, the high byte first, has the CRC-16 0. -/
theorem crc16_append_crc16 (l : List Byte) : crc16 (l ++ bytes16 (crc16 l)) = 0 := by
  have hbytes : ∀ c : Word16, (bytes16 c).foldl crc16Step c = 0 := fun c => by
    have hc : byteOf c 1 ++ byteOf c 0 = c := be16_byteOf c
    have hhigh := crc16Step_high (byteOf c 1) (byteOf c 0)
    rw [hc] at hhigh
    rw [bytes16, List.foldl_cons, hhigh]
    exact crc16Step_low _
  rw [crc16, List.foldl_append]
  exact hbytes _

end Sys2Proof

namespace Sys2Proof.Machine

open Sys2Proof.Machine.Device

/-! ## Replies -/

theorem statusByte_eq (s : ReplyStatus) :
    statusByte s =
      BitVec.ofNat 8 (bitNo s.retiring 0 + bitNo s.locked 1 + bitNo s.written 2 + 8 * shareNo s.share + bitNo s.overrun 5) := by
  have hshare : (BitVec.ofNat 2 (shareNo s.share)).toNat = shareNo s.share := by cases s.share <;> rfl
  refine byte_eq_ofNat ?_
  simp only [statusByte, toNat_append_add, toNat_ofBool_eq, bitNo_eq, BitVec.toNat_zero, hshare]
  omega

theorem padPayload_eq (l : List Byte) : padPayload l = l.take 25 ++ List.replicate (25 - l.length) 0 := by
  rw [padPayload, List.take_append, List.take_replicate, Nat.min_eq_left (Nat.sub_le _ _)]

/-- Bytes 0 to 5 of a reply: marker, tag, code, result, status (Figure 11-5). -/
def replyHeader (tag : Word16) (code : Byte) (result : Result) (status : ReplyStatus) : List Byte :=
  [0xA0] ++ bytes16 tag ++ [code, byteNat (resultNo result), statusByte status]

/-- The check code of a reply as formed is that of its own first 31 bytes. -/
theorem formReply_crc (tag : Word16) (code : Byte) (result : Result) (status : ReplyStatus) (payload : List Byte) :
    (formReply tag code result status payload).crc = crc8 (formReply tag code result status payload).body := by
  simp only [formReply, ReplyCell.body]

/-- A reply is its header, its payload and the CRC-8 of both. -/
theorem formReply_bytes (tag : Word16) (code : Byte) (result : Result) (status : ReplyStatus) (payload : List Byte) :
    (formReply tag code result status payload).bytes =
      (replyHeader tag code result status ++ padPayload payload) ++
        [crc8 (replyHeader tag code result status ++ padPayload payload)] := by
  have hbody : (formReply tag code result status payload).body = replyHeader tag code result status ++ padPayload payload := rfl
  rw [ReplyCell.bytes, formReply_crc, hbody]

/-! ## Frames -/

theorem shareRecordBytes_length (r : ShareRecord) : (shareRecordBytes r).length = 12 := by cases r <;> rfl

theorem records_length (l : List ShareRecord) : (l.flatMap shareRecordBytes).length = 12 * l.length := by
  induction l with
  | nil => rfl
  | cons r l ih => rw [List.flatMap_cons, List.length_append, shareRecordBytes_length, ih, List.length_cons, Nat.mul_succ, Nat.add_comm]

/-- The 12 bytes before a frame's records (Figure 11-5). -/
def frameHeader (f : Frame) : List Byte :=
  [0x5F] ++ bytes16 f.classroom ++ [f.board] ++ bytes16 f.sequence ++ [f.generation] ++ bytes32 f.time ++ [byteNat f.records.length]

/-- A sealed frame is its header, its records and the CRC-16 of both. -/
theorem sealed_bytes (f : Frame) :
    f.sealed.bytes =
      (frameHeader f ++ f.records.flatMap shareRecordBytes) ++ bytes16 (crc16 (frameHeader f ++ f.records.flatMap shareRecordBytes)) := by
  have hbody : f.sealed.body = frameHeader f ++ f.records.flatMap shareRecordBytes := rfl
  rw [Frame.bytes, sealed_crc, hbody]

/-- Settles O32: both units are a header, a body of known length and the check code of both. -/
theorem sentUnitsCarryTheirChecks : Obligations.SentUnitsCarryTheirChecks := by
  intro tag code result status payload f o t c hi lo bit r g
  let body := replyHeader tag code result status ++ padPayload payload
  have hr : r = body ++ [crc8 body] := formReply_bytes tag code result status payload
  have hbody : body.length = 31 := by simp [body, replyHeader, bytes16]
  have htake : r.take 31 = body := by rw [hr]; exact List.take_left' hbody
  let records := f.records.flatMap shareRecordBytes
  let data := frameHeader f ++ records
  have hg : g = data ++ bytes16 (crc16 data) := sealed_bytes f
  have hrecords : records.length = 12 * f.records.length := records_length f.records
  have hdata : data.length = 12 + 12 * f.records.length := by rw [List.length_append, hrecords]; rfl
  have hgtake : g.take (12 + 12 * f.records.length) = data := by rw [hg]; exact List.take_left' hdata
  refine ⟨?_, ?_, ?_, ?_, ?_, ?_, ?_, ?_, ?_, ?_, rfl, rfl, rfl⟩
  · rw [hr, List.length_append, hbody]; rfl
  · rw [htake, hr, List.getLast?_concat]
  · rw [hr]
    exact crc8_append_crc8 body
  · have hheader : r.take 6 = replyHeader tag code result status := by
      rw [hr, List.append_assoc]
      exact List.take_left' rfl
    rw [hheader, replyHeader, statusByte_eq]
    rfl
  · have hrest : r.drop 6 = padPayload payload ++ [crc8 body] := by
      rw [hr, List.append_assoc]
      exact List.drop_left' rfl
    rw [hrest, ← padPayload_eq]
    exact List.take_left' (padPayload_length payload)
  · rw [hg, List.length_append, hdata, Nat.add_right_comm]
    rfl
  · have hheader : g.take 12 = frameHeader f := by
      rw [hg, List.append_assoc]
      exact List.take_left' rfl
    rw [hheader]
    rfl
  · have hrest : g.drop 12 = records ++ bytes16 (crc16 data) := by
      rw [hg, List.append_assoc]
      exact List.drop_left' rfl
    rw [hrest]
    exact List.take_left' hrecords
  · rw [hgtake, hg]
    exact List.drop_left' hdata
  · rw [hg]
    exact crc16_append_crc16 data

end Sys2Proof.Machine
end

section
/-! What a step does with the queue of waiting steps (section 9.2, log entry 6). -/

namespace Sys2Proof.Machine

/-- The front of the queue is executed with the rest of the queue behind it. -/
theorem step_of_pending_cons (i : Instr) (rest : List Instr) (d : Device) : step ⟨d, i :: rest⟩ = exec i ⟨d, rest⟩ := rfl

/-- With nothing waiting, a step idles. -/
theorem step_of_pending_nil (d : Device) : step ⟨d, []⟩ = .next ⟨d, []⟩ := rfl

/-- Settles O1: the two forms of the queue are the two branches of a step. -/
theorem stepRunsFrontOfQueue : Obligations.StepRunsFrontOfQueue := fun i rest d =>
  ⟨step_of_pending_cons i rest d, step_of_pending_nil d⟩

end Sys2Proof.Machine
end

section
/-! What the notice queue does with a post, an ACK and the end of a pulse (R170, R174 to R176). -/

namespace Sys2Proof.Machine

variable {q : NoticeQueue} {k : NoticeKind} {j : Subject} {e : NoticeEntry}

/-! ## Entries and their names -/

theorem NoticeEntry.names_iff : e.names k j = true ↔ e.kind = k ∧ e.subject = j := by
  rw [names, Bool.and_eq_true, decide_eq_true_eq, decide_eq_true_eq]

theorem NoticeQueue.any_names_iff : q.entries.any (NoticeEntry.names k j) = true ↔ ∃ e ∈ q.entries, e.kind = k ∧ e.subject = j := by
  simp only [List.any_eq_true, NoticeEntry.names_iff]

theorem NoticeQueue.condition_iff : q.condition = true ↔ ∃ e ∈ q.entries, q.threshold ≤ e.level := by
  simp only [condition, List.any_eq_true, decide_eq_true_eq]

/-- The line judged afresh: a pulse runs on, and otherwise the line follows the condition (R175, R176). -/
theorem NoticeQueue.judged_eq (q : NoticeQueue) :
    q.judged =
      { q with
        line := if q.line = .pulsing then .pulsing else if ∃ e ∈ q.entries, q.threshold ≤ e.level then .asserted else .released } :=
  q.judged_of_threshold q.threshold

/-! ## The place of a new entry -/

/-- In a queue whose levels do not rise, a new entry stands behind all of its level or higher and before all lower ones. -/
theorem placeEntry_eq (e : NoticeEntry) {l : List NoticeEntry} (h : l.Pairwise fun a b => b.level ≤ a.level) :
    placeEntry e l = l.filter (fun x => e.level ≤ x.level) ++ e :: l.filter (fun x => x.level < e.level) := by
  induction h with
  | nil => rfl
  | @cons x l hx _ ih =>
    unfold placeEntry
    by_cases hle : e.level ≤ x.level
    · rw [if_pos hle, ih, List.filter_cons_of_pos (by simpa using hle), List.filter_cons_of_neg (by simpa using hle), List.cons_append]
    · have hlow : ∀ y ∈ x :: l, y.level < e.level :=
        List.forall_mem_cons.mpr ⟨BitVec.not_le.mp hle, fun y hy => Nat.lt_of_le_of_lt (hx y hy) (BitVec.not_le.mp hle)⟩
      rw [if_neg hle, List.filter_eq_nil_iff.mpr fun y hy => by simpa using hlow y hy,
        List.filter_eq_self.mpr fun y hy => by simpa using hlow y hy, List.nil_append]

/-- The levels of a sound queue do not rise (R169). -/
theorem NoticeQueue.Sound.levels (h : q.Sound) : q.entries.Pairwise fun a b => b.level ≤ a.level :=
  have ⟨_, horder, _⟩ := h
  horder.imp fun hab => hab.elim BitVec.le_of_lt fun k => k.1 ▸ BitVec.le_refl _

/-- A repeat count stays at its greatest value, 255. -/
theorem satInc_byte (c : Byte) : satInc c = if c = 255 then 255 else c + 1 := by
  have hmax : BitVec.allOnes 8 = 255 := by decide
  rw [satInc, hmax]
  exact ite_congr rfl id fun _ => rfl

/-! ## A post, step by step (R170) -/

/-- An entry as a post of a kind and a subject leaves it where it stands: the repeat count of the one so named is raised. -/
def NoticeEntry.counted (k : NoticeKind) (j : Subject) (e : NoticeEntry) : NoticeEntry :=
  if e.names k j then { e with repeats := satInc e.repeats } else e

theorem NoticeQueue.post_of_silenced (h : q.levels[kindNo k] = 0) : q.post k j = q := if_pos h

theorem NoticeQueue.post_of_standing (h : q.levels[kindNo k] ≠ 0) (hs : ∃ e ∈ q.entries, e.kind = k ∧ e.subject = j) :
    q.post k j = { q with entries := q.entries.map (NoticeEntry.counted k j) } :=
  (if_neg h).trans (if_pos (any_names_iff.mpr hs))

theorem NoticeQueue.post_of_new (h : q.levels[kindNo k] ≠ 0) (hs : ¬∃ e ∈ q.entries, e.kind = k ∧ e.subject = j)
    (hroom : q.entries.length < 16) :
    q.post k j =
      judged { q with entries := placeEntry ⟨k, j, q.levels[kindNo k], 1, q.arrivals⟩ q.entries, arrivals := q.arrivals + 1 } :=
  (if_neg h).trans ((if_neg (mt any_names_iff.mp hs)).trans (if_pos hroom))

theorem NoticeQueue.post_of_full (h : q.levels[kindNo k] ≠ 0) (hs : ¬∃ e ∈ q.entries, e.kind = k ∧ e.subject = j)
    (hfull : 16 ≤ q.entries.length) : q.post k j = { q with overrun := true } :=
  (if_neg h).trans ((if_neg (mt any_names_iff.mp hs)).trans (if_neg (Nat.not_lt.mpr hfull)))

/-- Settles O35: the four ways of a post, the place and the line of a new entry said of the queue before it. -/
theorem postsMergeQueueOrOverrun : Obligations.PostsMergeQueueOrOverrun := by
  intro q k j level stands p
  refine ⟨NoticeQueue.post_of_silenced, fun hl hs => ?_, NoticeQueue.post_of_full, fun hl hs hroom hq => ?_⟩
  · refine (NoticeQueue.post_of_standing hl hs).trans ?_
    unfold NoticeEntry.counted
    simp only [NoticeEntry.names_iff, satInc_byte]
  · have hp : p = _ := NoticeQueue.post_of_new hl hs hroom
    have hplace := placeEntry_eq ⟨k, j, level, 1, q.arrivals⟩ hq.levels
    rw [NoticeQueue.judged_eq] at hp
    refine ⟨?_, ?_, ?_⟩
    · rw [hp]
      exact hplace
    · rw [hp]
      simp only [(placeEntry_perm _ q.entries).mem_iff, List.exists_mem_cons_iff]
      rfl
    · rw [hp]

/-! ## ACK and the pulse (R174, R176) -/

/-- A sound queue holds one entry of a kind and a subject (R169). -/
theorem NoticeQueue.Sound.eq_of_names (h : q.Sound) {x : NoticeEntry} (hx : x ∈ q.entries) (he : e ∈ q.entries)
    (hxn : x.names k j = true) (hen : e.names k j = true) : x = e := by
  obtain ⟨hxk, hxj⟩ := NoticeEntry.names_iff.mp hxn
  obtain ⟨hek, hej⟩ := NoticeEntry.names_iff.mp hen
  obtain ⟨-, -, honce, -⟩ := h
  have hnodup : (q.entries.map fun x => (x.kind, x.subject)).Nodup := List.pairwise_map.mpr (honce.imp fun hab k => hab (Prod.mk.inj k))
  exact List.inj_on_of_nodup_map hnodup hx he (Prod.ext (hxk.trans hek.symm) (hxj.trans hej.symm))

theorem NoticeQueue.Sound.find_of_names (h : q.Sound) (he : e ∈ q.entries) (hn : e.names k j = true) :
    q.entries.find? (NoticeEntry.names k j) = some e := by
  obtain ⟨x, hx⟩ := Option.isSome_iff_exists.mp (List.find?_isSome.mpr ⟨e, he, hn⟩)
  rw [hx, h.eq_of_names (List.mem_of_find?_eq_some hx) he (List.find?_some hx) hn]

/-- What an ACK leaves is the queue without the entry that it names. -/
theorem NoticeQueue.Sound.filter_not_names (h : q.Sound) (he : e ∈ q.entries) (hn : e.names k j = true) :
    q.entries.filter (fun x : NoticeEntry => !x.names k j) = q.entries.erase e := by
  have ⟨_, _, honce, _⟩ := h
  have hnodup : q.entries.Nodup := honce.imp fun hab hne => hab ⟨congrArg _ hne, congrArg _ hne⟩
  rw [hnodup.erase_eq_filter]
  refine List.filter_congr fun x hx => Bool.eq_iff_iff.mpr ?_
  rw [Bool.not_eq_true', bne_iff_ne, Bool.eq_false_iff]
  exact not_congr ⟨fun hxn => h.eq_of_names hx he hxn hn, fun hxe => hxe ▸ hn⟩

theorem subjectOf_subjectNo : ∀ j : Subject, subjectOf (BitVec.ofNat 5 (subjectNo j)) = some j := by decide

theorem NoticeQueue.acked_eq (k : NoticeKind) (j : Subject) (q : NoticeQueue) :
    q.acked k j =
      { q with
        entries := q.entries.filter fun x : NoticeEntry => !x.names k j
        overrun := false
        line :=
          if ∃ x ∈ q.entries.filter (fun x : NoticeEntry => !x.names k j), q.threshold ≤ x.level then .pulsing else .released } := by
  unfold acked
  simp only [condition_iff]

theorem NoticeQueue.pulseEnds_of_pulsing (h : q.line = .pulsing) :
    q.pulseEnds = { q with line := if ∃ e ∈ q.entries, q.threshold ≤ e.level then .asserted else .released } := by
  unfold pulseEnds
  rw [h]
  simp only [condition_iff]

/-- An ACK of a standing entry (R174). -/
theorem runAck_standing {d : Device} (tag : Word16) (h : d.notices.Sound) (he : e ∈ d.notices.entries) (hn : e.names k j = true) :
    runAck tag (BitVec.ofNat 4 (kindNo k).val) (BitVec.ofNat 5 (subjectNo j)) d =
      Device.reply tag 0x61 .done
        [byteNat (kindNo k).val, byteNat (subjectNo j), e.repeats, byteNat (d.notices.acked k j).entries.length,
          byteBool d.notices.overrun]
        { d with notices := d.notices.acked k j } := by
  unfold runAck
  rw [kindOf_kindNo, subjectOf_subjectNo]
  simp only [h.find_of_names he hn]

/-- Settles O36: the ACK of the one entry of its name, and the end of the pulse that it may leave. -/
theorem ackRemovesEntryAndPulses : Obligations.AckRemovesEntryAndPulses := by
  intro s tag k j e q left reaches
  have hleft : left = q.entries.filter fun x : NoticeEntry => !x.names k j :=
    List.filter_congr fun x _ => by simp only [← NoticeEntry.names_iff, decide_not, Bool.decide_eq_true]
  refine ⟨fun hr hq he hk hj => ?_, fun hp => ?_⟩
  · have hn : e.names k j = true := NoticeEntry.names_iff.mpr ⟨hk, hj⟩
    have hrun := runAck_standing tag hq he hn
    rw [NoticeQueue.acked_eq] at hrun
    rw [hleft]
    refine ⟨?_, answers_of_run rfl hr hrun⟩
    rw [hq.filter_not_names he hn]
    exact List.length_erase_add_one he
  · have hends := NoticeQueue.pulseEnds_of_pulsing hp
    show State.onDevice (fun d => { d with notices := d.notices.pulseEnds }) s = _
    rw [State.onDevice_eq, hends]

end Sys2Proof.Machine
end

section
/-! What the notice queue can do, operation by operation, and that each operation keeps it sound (R169, R170, R175 to R177). -/

namespace Sys2Proof.Machine

/-- The operations that write to the notice queue. -/
inductive NoticeQueue.Move : NoticeQueue → NoticeQueue → Prop
  | post (q : NoticeQueue) (k : NoticeKind) (j : Subject) : Move q (q.post k j)
  | ack (q : NoticeQueue) (k : NoticeKind) (j : Subject) : Move q (q.acked k j)
  | level (q : NoticeQueue) (k : NoticeKind) (l : BitVec 3) : Move q { q with levels := q.levels.set (kindNo k) l }
  | threshold (q : NoticeQueue) {l : BitVec 3} (h : l ≠ 0) : Move q (judged { q with threshold := l })
  | pulseEnd (q : NoticeQueue) : Move q q.pulseEnds
  | restart (q : NoticeQueue) : Move q q.restarted
  | reset (q : NoticeQueue) : Move q .reset

/-- A chain of such operations. -/
abbrev NoticeQueue.Moves : NoticeQueue → NoticeQueue → Prop := Relation.ReflTransGen NoticeQueue.Move

namespace NoticeQueue

variable {q r : NoticeQueue}

/-- The line stands as the condition says, but for a pulse (R175). -/
def LineFollows (q : NoticeQueue) : Prop := q.line ≠ .pulsing → (q.line = .asserted ↔ q.condition = true)

theorem ite_asserted_iff {c : Prop} [Decidable c] : (if c then LineState.asserted else .released) = .asserted ↔ c := by
  split <;> simp [*]

/-- Judged afresh, the line follows the condition. -/
theorem judged_lineFollows (q : NoticeQueue) : q.judged.LineFollows := by
  have hcondition : q.judged.condition = true ↔ ∃ e ∈ q.entries, q.threshold ≤ e.level := by
    rw [condition_iff, judged_entries, judged_threshold]
  intro hp
  rw [hcondition]
  rw [judged_eq] at hp ⊢
  by_cases hl : q.line = .pulsing
  · exact absurd (if_pos hl) hp
  · simp only [if_neg hl, ite_asserted_iff]

theorem acked_lineFollows (k : NoticeKind) (j : Subject) (q : NoticeQueue) : (q.acked k j).LineFollows := by
  intro hp
  rw [condition_iff]
  rw [acked_eq] at hp ⊢
  dsimp only at hp ⊢
  split
  · next h => exact absurd (if_pos h) hp
  · next h => exact iff_of_false nofun h

/-! ## A post -/

theorem counted_rest (k : NoticeKind) (j : Subject) (e : NoticeEntry) :
    (e.counted k j).kind = e.kind ∧ (e.counted k j).subject = e.subject ∧ (e.counted k j).level = e.level ∧
      (e.counted k j).arrival = e.arrival := by
  unfold NoticeEntry.counted
  split <;> exact ⟨rfl, rfl, rfl, rfl⟩

theorem counted_repeats_ne {e : NoticeEntry} (h : e.repeats ≠ 0) (k : NoticeKind) (j : Subject) : (e.counted k j).repeats ≠ 0 := by
  unfold NoticeEntry.counted
  split
  · show satInc e.repeats ≠ 0
    rw [satInc_byte]
    split
    · decide
    · bv_omega
  · exact h

/-- A merge keeps the order, the names and the condition. -/
theorem Sound.merged (h : q.Sound) (k : NoticeKind) (j : Subject) :
    Sound { q with entries := q.entries.map (NoticeEntry.counted k j) } := by
  obtain ⟨hlength, horder, honce, hvalues, hthreshold, hline⟩ := h
  refine ⟨by rwa [List.length_map], List.pairwise_map.mpr ?_, List.pairwise_map.mpr ?_, List.forall_mem_map.mpr fun e he => ?_, hthreshold,
    fun hp => (hline hp).trans ?_⟩
  · simpa only [counted_rest] using horder
  · simpa only [counted_rest] using honce
  · obtain ⟨hlevel, hrepeats, harrival⟩ := hvalues e he
    simp only [counted_rest]
    exact ⟨hlevel, counted_repeats_ne hrepeats k j, harrival⟩
  · simp only [condition_iff, List.mem_map, exists_exists_and_eq_and, counted_rest]

/-- A new entry takes its place in order, where none of its name stands and there is room. -/
theorem Sound.placed (h : q.Sound) {k : NoticeKind} {j : Subject} (hl : q.levels[kindNo k] ≠ 0)
    (hs : ¬∃ e ∈ q.entries, e.kind = k ∧ e.subject = j) (hroom : q.entries.length < 16) :
    Sound (judged { q with entries := placeEntry ⟨k, j, q.levels[kindNo k], 1, q.arrivals⟩ q.entries, arrivals := q.arrivals + 1 }) := by
  have hlevels := h.levels
  obtain ⟨-, horder, honce, hvalues, hthreshold, -⟩ := h
  have hperm := placeEntry_perm ⟨k, j, q.levels[kindNo k], 1, q.arrivals⟩ q.entries
  refine ⟨?_, ?_, ?_, ?_, ?_, judged_lineFollows _⟩
  · rw [judged_entries, hperm.length_eq]
    exact hroom
  · rw [judged_entries, placeEntry_eq _ hlevels, List.pairwise_append, List.pairwise_cons]
    simp only [List.mem_cons, List.mem_filter, decide_eq_true_eq]
    refine ⟨horder.filter _, ⟨fun b hb => .inl hb.2, horder.filter _⟩, fun a ha b hb => ?_⟩
    rcases hb with rfl | hb
    · exact (Nat.lt_or_eq_of_le ha.2).imp_right fun heq => ⟨BitVec.eq_of_toNat_eq heq.symm, (hvalues a ha.1).2.2⟩
    · exact .inl (Nat.lt_of_lt_of_le hb.2 ha.2)
  · have hsymm : ∀ {a b : NoticeEntry}, ¬(a.kind = b.kind ∧ a.subject = b.subject) → ¬(b.kind = a.kind ∧ b.subject = a.subject) :=
      fun hab hba => hab ⟨hba.1.symm, hba.2.symm⟩
    rw [judged_entries, hperm.pairwise_iff hsymm, List.pairwise_cons]
    exact ⟨fun e he hn => hs ⟨e, he, hn.1.symm, hn.2.symm⟩, honce⟩
  · rw [judged_entries, judged_arrivals]
    intro e he
    rcases List.mem_cons.mp (hperm.mem_iff.mp he) with rfl | he
    · exact ⟨hl, (by decide : (1 : Byte) ≠ 0), Nat.lt_succ_self _⟩
    · obtain ⟨hlevel, hrepeats, harrival⟩ := hvalues e he
      exact ⟨hlevel, hrepeats, Nat.lt_succ_of_lt harrival⟩
  · rwa [judged_threshold]

theorem Sound.post (h : q.Sound) (k : NoticeKind) (j : Subject) : (q.post k j).Sound := by
  by_cases hl : q.levels[kindNo k] = 0
  · rwa [post_of_silenced hl]
  · by_cases hs : ∃ e ∈ q.entries, e.kind = k ∧ e.subject = j
    · rw [post_of_standing hl hs]
      exact h.merged k j
    · by_cases hroom : q.entries.length < 16
      · rw [post_of_new hl hs hroom]
        exact h.placed hl hs hroom
      · rw [post_of_full hl hs (Nat.not_lt.mp hroom)]
        exact h

/-! ## The other operations -/

theorem Sound.acked (h : q.Sound) (k : NoticeKind) (j : Subject) : (q.acked k j).Sound := by
  obtain ⟨hlength, horder, honce, hvalues, hthreshold, -⟩ := h
  have hline := acked_lineFollows k j q
  rw [acked_eq] at hline ⊢
  exact ⟨(List.length_filter_le _ _).trans hlength, horder.filter _, honce.filter _, fun e he => hvalues e (List.mem_of_mem_filter he),
    hthreshold, hline⟩

theorem Sound.thresholdSet (h : q.Sound) {l : BitVec 3} (hl : l ≠ 0) : (judged { q with threshold := l }).Sound := by
  obtain ⟨hlength, horder, honce, hvalues, -, -⟩ := h
  refine ⟨?_, ?_, ?_, ?_, ?_, judged_lineFollows _⟩
  · rwa [judged_entries]
  · rwa [judged_entries]
  · rwa [judged_entries]
  · rwa [judged_entries, judged_arrivals]
  · rwa [judged_threshold]

theorem Sound.pulseEnds (h : q.Sound) : q.pulseEnds.Sound := by
  by_cases hl : q.line = .pulsing
  · obtain ⟨hlength, horder, honce, hvalues, hthreshold, -⟩ := h
    rw [pulseEnds_of_pulsing hl]
    exact ⟨hlength, horder, honce, hvalues, hthreshold, fun _ => ite_asserted_iff.trans condition_iff.symm⟩
  · rwa [pulseEnds_of_ne hl]

/-- An empty queue with its line released is sound under any threshold. -/
theorem sound_of_empty (he : q.entries = []) (ht : q.threshold ≠ 0) (hl : q.line = .released) : q.Sound := by
  unfold Sound condition
  rw [he, hl]
  exact ⟨Nat.zero_le _, .nil, .nil, nofun, ht, fun _ => iff_of_false nofun nofun⟩

theorem Move.sound (m : Move q r) (h : q.Sound) : r.Sound := by
  cases m with
  | post k j => exact h.post k j
  | ack k j => exact h.acked k j
  | level k l => exact h
  | threshold hl => exact h.thresholdSet hl
  | pulseEnd => exact h.pulseEnds
  | restart =>
    obtain ⟨-, -, -, -, hthreshold, -⟩ := h
    exact sound_of_empty rfl hthreshold rfl
  | reset => exact sound_of_empty rfl (by decide) rfl

theorem Moves.sound (m : q.Moves r) (h : q.Sound) : r.Sound := by
  induction m with
  | refl => exact h
  | tail _ hm ih => exact hm.sound ih

end NoticeQueue

end Sys2Proof.Machine
end

section
/-! SUPPORT. What pens, strokes and the router post: whatever they do, the notice queue takes a chain of its own operations. -/

namespace Sys2Proof.Machine

open Device NoticeQueue

variable {q : NoticeQueue} {d e : Device} {i : Slot}

/-! ## Chains -/

theorem NoticeQueue.moves_of_eq {r : NoticeQueue} (h : r = q) : q.Moves r := h ▸ .refl

theorem Device.post_noticeMoves (k : NoticeKind) (j : Subject) (d : Device) :
    d.notices.Moves (d.post k j).notices := .single (.post _ k j)

theorem Device.ite_noticeMoves {a b : Device} {c : Prop} [Decidable c] (h : q.Moves a.notices) (k : q.Moves b.notices) :
    q.Moves (if c then a else b).notices := by
  split
  · exact h
  · exact k

/-- What stands behind a change of other parts. -/
theorem Device.noticeMoves_behind {f : Device} (k : e.notices.Moves f.notices) (h : e.notices = d.notices := by rfl) :
    d.notices.Moves f.notices := h ▸ k

theorem Device.fold_noticeMoves {α : Type} {f : Device → α → Device} (h : ∀ (e : Device) a, e.notices.Moves (f e a).notices)
    (l : List α) (d : Device) : d.notices.Moves (l.foldl f d).notices := by
  induction l generalizing d with
  | nil => exact .refl
  | cons a l ih => exact (h d a).trans (ih _)

namespace Device

/-! ## The Segment Router and the Share Framer -/

theorem Framed.notices_eq (h : d.Framed e) : e.notices = d.notices := by rw [h.1]

theorem routeOpen_noticeMoves (o : OpenRecord) (st : Steering) (d : Device) : d.notices.Moves (d.routeOpen o st).notices := by
  unfold routeOpen
  extract_lets r oa oi sa si orf srf v d1 d2 d3
  have h2 : d.notices.Moves d2.notices := ite_noticeMoves (post_noticeMoves _ _ d1) .refl
  have h3 : d.notices.Moves d3.notices := ite_noticeMoves (h2.trans (post_noticeMoves _ _ d2)) h2
  exact ite_noticeMoves (h3.trans (moves_of_eq (sixRecordTrigger_framed d3).notices_eq)) h3

theorem offerShareSeg_noticeMoves (i : Slot) (s : SegRecord) (d : Device) : d.notices.Moves (d.offerShareSeg i s).notices :=
  ite_noticeMoves (moves_of_eq (sixRecordTrigger_framed { d with router := _ }).notices_eq) (post_noticeMoves _ _ { d with router := _ })

theorem routeSeg_noticeMoves (i : Slot) (s : SegRecord) (d : Device) : d.notices.Moves (d.routeSeg i s).notices := by
  unfold routeSeg
  split
  · exact .refl
  · extract_lets d1
    have h1 : d.notices.Moves d1.notices := ite_noticeMoves .refl .refl
    exact ite_noticeMoves (h1.trans (offerShareSeg_noticeMoves i s d1)) h1

theorem drain_noticeMoves (d : Device) : d.notices.Moves d.drain.notices := by
  have hbuilt : d.notices.Moves (buildWhile 1 2 d).notices := moves_of_eq (buildWhile_framed 1 2 d).notices_eq
  exact hbuilt.trans (ite_noticeMoves (post_noticeMoves .shareDrained none { buildWhile 1 2 d with framer := _ }) .refl)

theorem shareOffClose_notices (d : Device) (i : Slot) : (d.shareOffClose i).notices = d.notices := by
  unfold shareOffClose
  extract_lets k
  split
  · rfl
  · exact ite_keeps (f := notices) rfl rfl

theorem shareOff_notices (d : Device) : d.shareOff.notices = d.notices := by
  rw [shareOff_eq]
  exact fold_keeps (f := notices) shareOffClose_notices allSlots d

theorem disableShare_noticeMoves (d : Device) : d.notices.Moves d.disableShare.notices :=
  noticeMoves_behind (drain_noticeMoves (shareOff _)) (shareOff_notices _)

theorem flushTrigger_notices (d : Device) : d.flushTrigger.notices = d.notices :=
  ite_keeps (f := notices) rfl (ite_keeps (f := notices) (buildFrame_framed d).notices_eq rfl)

theorem pacerExpires_notices (d : Device) : d.pacerExpires.notices = d.notices := ite_keeps (f := notices) (flushTrigger_notices d) rfl

theorem takeFreedBuffer_noticeMoves (d : Device) : d.notices.Moves d.takeFreedBuffer.notices := by
  unfold takeFreedBuffer
  split
  · exact moves_of_eq ((sixRecordTrigger_framed _).notices_eq.trans (ite_keeps (f := notices) (buildFrame_framed d).notices_eq rfl))
  · exact drain_noticeMoves d
  · exact .refl

theorem frameCompletes_noticeMoves (d : Device) : d.notices.Moves d.frameCompletes.notices := by
  unfold frameCompletes
  split
  · exact noticeMoves_behind (takeFreedBuffer_noticeMoves _)
  · exact .refl

theorem overlayBegins_notices (ready : Bool) (d : Device) : (d.overlayBegins ready).notices = d.notices := by
  unfold overlayBegins
  split <;> rfl

theorem egressBegins_notices (ready : Bool) (d : Device) : (d.egressBegins ready).notices = d.notices := by
  unfold egressBegins frameBegins
  repeat' split
  all_goals rfl

/-! ## Strokes and contacts -/

theorem releaseStroke_noticeMoves (g : Byte) (d : Device) : d.notices.Moves (d.releaseStroke g).notices :=
  ite_noticeMoves (post_noticeMoves .applyDone none { d with zones := _ }) .refl

theorem closeStroke_noticeMoves (i : Slot) (reason : CloseReason) (time : Word32) (d : Device) :
    d.notices.Moves (d.closeStroke i reason time).notices := by
  unfold closeStroke
  extract_lets k v d1 d2 d3
  have h1 : d.notices.Moves d1.notices := moves_of_eq (routeClose_notices _ _ _ _ _ d)
  exact ite_noticeMoves (h1.trans (releaseStroke_noticeMoves k.generation d2)) .refl

theorem openStroke_noticeMoves (i : Slot) (r : OpenRequest) (d : Device) : d.notices.Moves (d.openStroke i r).notices :=
  routeOpen_noticeMoves _ _ (d.beforeRouting i r)

theorem blockSlot_noticeMoves (i : Slot) (z : ZoneNo) (d : Device) : d.notices.Moves (d.blockSlot i z).notices :=
  ite_noticeMoves (post_noticeMoves .protectedBlock (zoneSubject z) { d with contacts := _, zones := _ }) .refl

/-- What the contact unit asks for posts at most. -/
theorem Request.noticeMoves (h : Request i d e) : d.notices.Moves e.notices := by
  cases h with
  | contact c => exact .refl
  | seed s => exact .refl
  | smooth s => exact .refl
  | start r => exact openStroke_noticeMoves i r d
  | emit p s => exact routeSeg_noticeMoves i _ (d.setContext i _)
  | close reason time => exact closeStroke_noticeMoves i reason time d
  | refuse z => exact blockSlot_noticeMoves i z d
  | capture s => exact post_noticeMoves .offsetCaptured (slotSubject i) d

theorem Requests.noticeMoves (h : Requests i d e) : d.notices.Moves e.notices := by
  induction h with
  | refl => exact .refl
  | tail _ hr ih => exact ih.trans hr.noticeMoves

/-! ## The Pen Table and the Cell Receiver -/

theorem forceFree_noticeMoves (i : Slot) (d : Device) : d.notices.Moves (d.forceFree i).notices := closeStroke_noticeMoves i .forced d.clock d

theorem disableSlot_noticeMoves (i : Slot) (d : Device) : d.notices.Moves (d.disableSlot i).notices := by
  rw [disableSlot_cases]
  exact ite_noticeMoves (forceFree_noticeMoves i d) .refl

theorem bindSlot_noticeMoves (i : Slot) (t : Word24) (l : Lane) (a : Admission) (stamp : Word32) (d : Device) :
    d.notices.Moves (d.bindSlot i t l a stamp).notices := post_noticeMoves .penBound (slotSubject i) d

theorem evict_noticeMoves (i : Slot) (d : Device) : d.notices.Moves (d.evict i).notices := post_noticeMoves .penEvicted (slotSubject i) d

theorem bindAttempt_noticeMoves (t : Word24) (l : Lane) (stamp : Word32) (d : Device) :
    d.notices.Moves (d.bindAttempt t l stamp).2.notices := by
  unfold bindAttempt chooseSlot
  split
  · exact post_noticeMoves .unknownPen (laneSubject l) d
  · cases d.freeSlotNo with
    | some i => exact bindSlot_noticeMoves i t l _ stamp d
    | none =>
      cases d.oldestAway with
      | some i => exact (evict_noticeMoves i d).trans (bindSlot_noticeMoves i t l _ stamp _)
      | none => exact post_noticeMoves .penTableFull (laneSubject l) d

theorem penSample_noticeMoves (l : Lane) (s : Sample) (d : Device) : d.notices.Moves (d.penSample l s).notices := by
  unfold penSample
  split
  · next i _ => exact (takeSample_requests i s (d.seen i l s.stamp)).noticeMoves
  · have hbind := bindAttempt_noticeMoves s.fields.transducer l s.stamp d
    generalize d.bindAttempt s.fields.transducer l s.stamp = r at hbind ⊢
    obtain ⟨_ | i, e⟩ := r
    · exact hbind
    · exact hbind.trans (takeSample_requests i s e).noticeMoves

theorem penProximity_noticeMoves (l : Lane) (t : Word24) (ev : ProximityEvent) (stamp : Word32) (d : Device) :
    d.notices.Moves (d.penProximity l t ev stamp).notices := by
  unfold penProximity
  split
  · next i _ => exact (takeEnter_requests i (d.seen i l stamp)).noticeMoves
  · next i _ => exact (takeLeave_requests i (d.seen i l stamp) stamp).noticeMoves
  · exact bindAttempt_noticeMoves t l stamp d
  · exact .refl

theorem checkSequence_noticeMoves (l : Lane) (n : BitVec 4) (d : Device) : d.notices.Moves (d.checkSequence l n).notices :=
  ite_noticeMoves .refl (post_noticeMoves .laneGap (laneSubject l) d)

/-! ## Timers and the link-valid line -/

theorem presenceExpires_noticeMoves (i : Slot) (d : Device) : d.notices.Moves (d.presenceExpires i).notices :=
  ite_noticeMoves (dropRange_requests i d .lost).noticeMoves .refl

theorem takeDue_noticeMoves (d : Device) : d.notices.Moves d.takeDue.notices := by
  have hslot : ∀ (e : Device) (i : Slot), e.notices.Moves (e.slotExpires i).notices := fun e i =>
    (liftHoldExpires_requests i e).noticeMoves.trans (presenceExpires_noticeMoves i _)
  exact (fold_noticeMoves hslot allSlots d).trans (moves_of_eq (pacerExpires_notices _))

theorem tick_notices (d : Device) : d.tick.notices = d.notices := rfl

theorem millisecond_noticeMoves (d : Device) : d.notices.Moves d.millisecond.notices :=
  (takeDue_noticeMoves d).trans (moves_of_eq (tick_notices _))

theorem linkFalls_noticeMoves (d : Device) : d.notices.Moves d.linkFalls.notices :=
  fold_noticeMoves (f := fun e i => e.dropRange i .lost) (fun e i => (dropRange_requests i e .lost).noticeMoves) allSlots d.lineDown

/-! ## Range reads -/

theorem clearRead_notices (t : ReadTarget) (n : Nat) (d : Device) : (d.clearRead t n).notices = d.notices := by
  unfold clearRead
  split
  · unfold clearItem
    split <;> rfl
  · rfl

theorem readItem_notices (r : RangeRead) (d : Device) : (d.readItem r).notices = d.notices :=
  ite_keeps (f := notices) rfl (clearRead_notices r.target r.next (d.reply _ _ _ _))

theorem readBurst_notices (n : Nat) (d : Device) : (readBurst n d).notices = d.notices := by
  induction n generalizing d with
  | zero => rfl
  | succ n ih =>
    unfold readBurst
    split
    · rfl
    · exact ite_keeps (f := notices) ((ih _).trans (readItem_notices _ d)) rfl

theorem startRead_notices (r : RangeRead) (d : Device) : (d.startRead r).notices = d.notices := readBurst_notices _ (d.setReading (some r))

theorem tableRead_notices (tag : Word16) (t : ReadTarget) (a b : Byte) (n : Nat) (d : Device) :
    (d.tableRead tag t a b n).notices = d.notices := ite_keeps (f := notices) (startRead_notices _ d) rfl

theorem nextItem_notices (d : Device) : d.nextItem.notices = d.notices := by
  unfold nextItem
  split
  · rfl
  · exact ite_keeps (f := notices) (readItem_notices _ d) rfl

end Device

end Sys2Proof.Machine
end

section
/-! Every step keeps the notice queue sound (R169, R170, R175 to R177). -/

namespace Sys2Proof.Machine

open Device NoticeQueue

variable {d : Device}

/-! ## Commands -/

theorem Device.onBound_noticeMoves (tag : Word16) (code : Byte) (slot : BitVec 4) {f : Slot → Device → Device}
    (h : ∀ i, d.notices.Moves (f i d).notices) : d.notices.Moves (d.onBound tag code slot f).notices := by
  unfold onBound
  split
  · exact .refl
  · exact ite_noticeMoves .refl (h _)

theorem Device.writeStaging_notices (tag : Word16) (code : Byte) (f : Bank → Bank) (d : Device) :
    (d.writeStaging tag code f).notices = d.notices := ite_keeps (f := notices) rfl (ite_keeps (f := notices) rfl rfl)

theorem Device.cancelCaptureAt_notices (i : Slot) (d : Device) : (d.cancelCaptureAt i).notices = d.notices :=
  ite_keeps (f := notices) (ite_keeps (f := notices) rfl rfl) rfl

theorem runSetSlotEnable_noticeMoves (t : Word16) (i : BitVec 4) (on : Bool) (d : Device) :
    d.notices.Moves (runSetSlotEnable t i on d).notices := by
  unfold runSetSlotEnable
  split
  · exact .refl
  · cases on
    · exact disableSlot_noticeMoves _ d
    · exact .refl

theorem runShareEnable_notices (t : Word16) (d : Device) : (runShareEnable t d).notices = d.notices := by
  unfold runShareEnable
  split
  · rfl
  · rfl
  · exact ite_keeps (f := notices) rfl rfl

theorem runShareDisable_noticeMoves (t : Word16) (d : Device) : d.notices.Moves (runShareDisable t d).notices := by
  unfold runShareDisable
  split
  · exact (disableShare_noticeMoves d).trans (moves_of_eq (reply_notices _ _ _ _ _))
  · exact .refl

theorem runFlush_notices (t : Word16) (d : Device) : (runFlush t d).notices = d.notices := by
  unfold runFlush
  split
  · extract_lets e f
    exact (reply_notices f _ _ _ _).trans (flushTrigger_notices d)
  · rfl

theorem runAck_noticeMoves (t : Word16) (kind : BitVec 4) (subject : BitVec 5) (d : Device) :
    d.notices.Moves (runAck t kind subject d).notices := by
  unfold runAck
  split
  · next k j _ _ =>
    split
    · exact .refl
    · exact .single (.ack _ k j)
  · exact .refl

theorem runSetLevel_noticeMoves (t : Word16) (kind : BitVec 4) (l : BitVec 3) (d : Device) :
    d.notices.Moves (runSetLevel t kind l d).notices := by
  unfold runSetLevel
  split
  · exact .refl
  · next k _ => exact .single (.level _ k l)

theorem runSetLineThreshold_noticeMoves (t : Word16) (l : BitVec 3) (d : Device) :
    d.notices.Moves (runSetLineThreshold t l d).notices := by
  unfold runSetLineThreshold
  split
  · exact .refl
  · next hl => exact .single (.threshold _ hl)

/-- Every execution is a chain of operations of the notice queue (R155). -/
theorem runCommand_noticeMoves (i : Instr) (d : Device) : d.notices.Moves (runCommand i d).notices := by
  cases i with
  | restart t => exact .single (.restart _)
  | ack t k j => exact runAck_noticeMoves t k j d
  | setLevel t k l => exact runSetLevel_noticeMoves t k l d
  | setLineThreshold t l => exact runSetLineThreshold_noticeMoves t l d
  | setSlotEnable t i on => exact runSetSlotEnable_noticeMoves t i on d
  | unbind t i => exact onBound_noticeMoves t 0x2A i fun i => forceFree_noticeMoves i d
  | forceLeave t i =>
    exact onBound_noticeMoves t 0x2B i (f := fun i e => e.dropRange i .forced) fun i => (dropRange_requests i d .forced).noticeMoves
  | captureOffset t i x y => exact onBound_noticeMoves t 0x2C i fun _ => .refl
  | cancelCapture t i => exact onBound_noticeMoves t 0x2D i fun i => moves_of_eq (cancelCaptureAt_notices i d)
  | retireNow t =>
    have hretired := fold_noticeMoves (f := retireStroke) (fun e i => (retireStroke_requests i e).noticeMoves) d.retiringSlots d
    exact ite_noticeMoves .refl (ite_noticeMoves .refl hretired)
  | shareDisable t => exact runShareDisable_noticeMoves t d
  | shareEnable t => exact moves_of_eq (runShareEnable_notices t d)
  | flush t => exact moves_of_eq (runFlush_notices t d)
  | writeIdentity t c b => exact ite_noticeMoves .refl .refl
  | apply t => exact ite_noticeMoves .refl (ite_noticeMoves .refl .refl)
  | readCounters t g c => exact ite_noticeMoves .refl (moves_of_eq (startRead_notices _ d))
  | readAdmission t a b => exact moves_of_eq (tableRead_notices _ _ _ _ _ d)
  | readProfile t a b => exact moves_of_eq (tableRead_notices _ _ _ _ _ d)
  | readCurve t a b => exact moves_of_eq (tableRead_notices _ _ _ _ _ d)
  | readSlot t a b p => exact ite_noticeMoves .refl (moves_of_eq (tableRead_notices _ _ _ _ _ d))
  | readStroke t a b p => exact ite_noticeMoves .refl (moves_of_eq (tableRead_notices _ _ _ _ _ d))
  | readZone t s a b => exact ite_noticeMoves .refl (ite_noticeMoves .refl (moves_of_eq (startRead_notices _ d)))
  | writeOpenArea t r => exact moves_of_eq (writeStaging_notices _ _ _ d)
  | writeZoneRect t z a b c e =>
    show d.notices.Moves (runWriteZoneRect t z a b c e d).notices
    unfold runWriteZoneRect
    split
    · exact .refl
    · exact moves_of_eq (writeStaging_notices _ _ _ d)
  | writeZoneAttributes t z e r =>
    show d.notices.Moves (runWriteZoneAttributes t z e r d).notices
    unfold runWriteZoneAttributes
    split
    · exact .refl
    · exact moves_of_eq (writeStaging_notices _ _ _ d)
  | writeSlotParameters t i p a =>
    show d.notices.Moves (runWriteSlotParameters t i p a d).notices
    unfold runWriteSlotParameters
    split <;> exact .refl
  | setOffset t i x y =>
    show d.notices.Moves (runSetOffset t i x y d).notices
    unfold runSetOffset
    split <;> exact .refl
  | writeAdmission t i e m k a p =>
    show d.notices.Moves (runWriteAdmission t i e m k a p d).notices
    unfold runWriteAdmission
    split <;> exact .refl
  | _ => exact .refl

/-! ## The command path -/

namespace Device

theorem takeCommands_noticeMoves (n : Nat) (d : Device) : d.notices.Moves (takeCommands n d).notices := by
  induction n generalizing d with
  | zero => exact .refl
  | succ n ih =>
    unfold takeCommands
    split
    · exact .refl
    · next c rest _ =>
      have hrun := runCommand_noticeMoves (decodeCommand c) { d with responder := { d.responder with queue := rest } }
      exact ite_noticeMoves (hrun.trans (ih _)) .refl

theorem takingTest_noticeMoves (d : Device) : d.notices.Moves d.takingTest.notices := takeCommands_noticeMoves _ d

theorem commandArrives_noticeMoves (c : Command) (d : Device) : d.notices.Moves (d.commandArrives c).notices :=
  ite_noticeMoves (noticeMoves_behind (takingTest_noticeMoves _)) (post_noticeMoves .commandOverrun none { d with responder := _ })

theorem commandStep_noticeMoves (i j : Instr) (d : Device) : d.notices.Moves (d.commandStep i (runCommand j)).notices := by
  unfold commandStep
  refine ite_noticeMoves (runCommand_noticeMoves j d) ?_
  split
  · exact commandArrives_noticeMoves _ d
  · exact .refl

theorem cellArrives_noticeMoves (cell : Cell) (d : Device) : d.notices.Moves (d.cellArrives cell).notices := by
  unfold cellArrives
  split
  · exact .refl
  · split
    · exact (checkSequence_noticeMoves _ _ d).trans (penSample_noticeMoves _ _ _)
    · exact (checkSequence_noticeMoves _ _ d).trans (penProximity_noticeMoves _ _ _ _ _)
    · exact commandArrives_noticeMoves _ d
    · next l _ => exact post_noticeMoves .cellError (laneSubject l) d

theorem replyCompletes_noticeMoves (d : Device) : d.notices.Moves d.replyCompletes.notices := by
  unfold replyCompletes
  split
  · exact noticeMoves_behind (takingTest_noticeMoves _)
  · exact .refl

theorem nextItem_takingTest_noticeMoves (d : Device) : d.notices.Moves d.nextItem.takingTest.notices :=
  (moves_of_eq (nextItem_notices d)).trans (takingTest_noticeMoves _)

theorem hardResetDevice_notices (v : Bool) : (hardResetDevice v).notices = .reset := ite_keeps (f := notices) rfl rfl

end Device

/-! ## Every step -/

theorem noticeMoves_of_onDevice {f : Device → Device} {s t : State} (he : s.onDevice f = .next t)
    (h : s.dev.notices.Moves (f s.dev).notices) :
    s.dev.notices.Moves t.dev.notices := by
  cases he
  exact h

/-- An event of the links, lines and timers. -/
theorem exec_event_noticeMoves {i : Instr} {s t : State} (h : encodeCommand i = none) (he : exec i s = .next t) :
    s.dev.notices.Moves t.dev.notices := by
  cases i with
  | hardReset v =>
    refine noticeMoves_of_onDevice (f := fun _ => hardResetDevice v) he ?_
    rw [hardResetDevice_notices]
    exact .single (.reset _)
  | linkValidFalls => exact noticeMoves_of_onDevice he (linkFalls_noticeMoves s.dev)
  | linkValidRises => exact noticeMoves_of_onDevice (f := linkRises) he .refl
  | millisecondTick => exact noticeMoves_of_onDevice he (millisecond_noticeMoves s.dev)
  | sample cell => exact noticeMoves_of_onDevice he (cellArrives_noticeMoves cell s.dev)
  | proximity cell => exact noticeMoves_of_onDevice he (cellArrives_noticeMoves cell s.dev)
  | commandCell cell => exact noticeMoves_of_onDevice he (cellArrives_noticeMoves cell s.dev)
  | invalidCell cell => exact noticeMoves_of_onDevice he (cellArrives_noticeMoves cell s.dev)
  | presenceExpiry i => exact noticeMoves_of_onDevice he (presenceExpires_noticeMoves i s.dev)
  | liftHoldExpiry i => exact noticeMoves_of_onDevice he (liftHoldExpires_requests i s.dev).noticeMoves
  | pacerExpiry => exact noticeMoves_of_onDevice he (moves_of_eq (pacerExpires_notices s.dev))
  | noticePulseEnd =>
    exact noticeMoves_of_onDevice (f := fun d => { d with notices := d.notices.pulseEnds }) he (.single (.pulseEnd _))
  | overlayTxBegin ready => exact noticeMoves_of_onDevice he (moves_of_eq (overlayBegins_notices ready s.dev))
  | overlayTxComplete => exact noticeMoves_of_onDevice (f := overlayCompletes) he (ite_noticeMoves .refl .refl)
  | shareEgressBegin ready => exact noticeMoves_of_onDevice he (moves_of_eq (egressBegins_notices ready s.dev))
  | replyTxComplete => exact noticeMoves_of_onDevice he (replyCompletes_noticeMoves s.dev)
  | frameTxComplete => exact noticeMoves_of_onDevice he (frameCompletes_noticeMoves s.dev)
  | rangeReadNextItem =>
    exact noticeMoves_of_onDevice (f := fun d => if d.responder.reading.isSome then d.nextItem.takingTest else d) he
      (ite_noticeMoves (nextItem_takingTest_noticeMoves s.dev) .refl)
  | _ => cases h

/-- Every step is a chain of operations of the notice queue. -/
theorem step_noticeMoves {s t : State} (h : step s = .next t) : s.dev.notices.Moves t.dev.notices := by
  unfold step at h
  split at h
  · cases h
    exact .refl
  · next i rest _ =>
    cases hc : encodeCommand i with
    | none => exact exec_event_noticeMoves (s := { s with pending := rest }) hc h
    | some c =>
      rw [exec_of_command hc] at h
      exact noticeMoves_of_onDevice (s := { s with pending := rest }) h (commandStep_noticeMoves i _ s.dev)

/-- Settles O52: a step is a chain of operations of the notice queue, and each of them keeps it sound. -/
theorem noticesStaySound : Obligations.NoticesStaySound := fun _ _ h => (step_noticeMoves h).sound

end Sys2Proof.Machine
end

section
/-! The round trip of the commands (R179, Figure 11-3). -/

namespace Sys2Proof

/-- Settles O50, command by command: each field is read back from the bytes that its writing leaves, and a well-formed unknown command's code
names no other command. -/
theorem commandRoundTrip : Obligations.CommandRoundTrip := fun _ _ hw h => decodeCommand_encodeCommand hw h

end Sys2Proof
end

section
/-! The places of the two router queues: what is taken, what is owed, and that every step keeps both within bounds (R118, R120, R121). -/

namespace Sys2Proof.Machine

open Device

/-! ## Reservations -/

/-- In which queues a stroke is live, and in which a place is owed to its CLOSE. -/
def Delivery.places (v : Delivery) := (v.overlayLive, v.overlayReserved, v.shareLive, v.shareReserved)

namespace Router

variable {r q : Router} {id : Word16} {v : Delivery}

/-- Delivery records with the same places owe the same. -/
theorem reservations_of_places (h : q.deliveries.map Delivery.places = r.deliveries.map Delivery.places) :
    q.overlayReservations = r.overlayReservations ∧ q.shareReservations = r.shareReservations := by
  have hcount (p : Bool × Bool × Bool × Bool → Bool) (l : List Delivery) :
      l.countP (fun v => p v.places) = (l.map Delivery.places).countP p := List.countP_map.symm
  constructor
  · exact (hcount (·.2.1) q.deliveries).trans (h ▸ (hcount (·.2.1) r.deliveries).symm)
  · exact (hcount (·.2.2.2) q.deliveries).trans (h ▸ (hcount (·.2.2.2) r.deliveries).symm)

theorem mapDelivery_places (r : Router) (id : Word16) {f : Delivery → Delivery} (hf : ∀ v, (f v).places = v.places) :
    (r.mapDelivery id f).deliveries.map Delivery.places = r.deliveries.map Delivery.places := by
  unfold mapDelivery
  rw [List.map_map]
  refine List.map_congr_left fun v _ => ?_
  show (if v.id = id then f v else v).places = v.places
  split
  · exact hf v
  · rfl

/-- The same places owed, and no more taken. -/
theorem Sound.of_places (h : r.Sound) (hp : q.deliveries.map Delivery.places = r.deliveries.map Delivery.places)
    (ho : q.overlayQueue.length ≤ r.overlayQueue.length) (hs : q.shareQueue.length ≤ r.shareQueue.length) : q.Sound := by
  obtain ⟨hreserved, hoverlay, hshare⟩ := h
  obtain ⟨ko, ks⟩ := reservations_of_places hp
  refine ⟨fun v hv => ?_, by omega, by omega⟩
  obtain ⟨u, hu, huv⟩ := List.mem_map.mp (hp ▸ List.mem_map_of_mem hv)
  simp only [Delivery.places, Prod.mk.injEq] at huv
  obtain ⟨h1, h2, h3, h4⟩ := huv
  rw [← h1, ← h2, ← h3, ← h4]
  exact hreserved u hu

theorem mem_of_delivery (h : r.delivery id = some v) : v ∈ r.deliveries ∧ v.id = id :=
  ⟨List.mem_of_find?_eq_some h, by simpa using List.find?_some h⟩

/-- The end of the delivery records of an id takes away at least what the one that is found counts for. -/
theorem countP_ended_le (h : r.delivery id = some v) (p : Delivery → Bool) :
    (r.deliveries.filter fun u => u.id ≠ id).countP p + (if p v then 1 else 0) ≤ r.deliveries.countP p := by
  obtain ⟨hv, rfl⟩ := mem_of_delivery h
  rw [List.countP_eq_countP_filter_add r.deliveries p (fun u => decide (u.id ≠ v.id))]
  refine Nat.add_le_add_left ?_ _
  split
  · next hp => exact List.countP_pos_iff.mpr ⟨v, by simpa using hv, hp⟩
  · exact Nat.zero_le _

/-- With ids distinct, it takes away exactly that. -/
theorem countP_ended {l : List Delivery} (hone : l.Pairwise fun u w => u.id ≠ w.id) (hv : v ∈ l) (p : Delivery → Bool) :
    (l.filter fun u => u.id ≠ v.id).countP p + (if p v then 1 else 0) = l.countP p := by
  induction l with
  | nil => cases hv
  | cons u l ih =>
    obtain ⟨hu, hl⟩ := List.pairwise_cons.mp hone
    rcases List.mem_cons.mp hv with rfl | hv
    · have hrest : l.filter (fun w => decide (w.id ≠ v.id)) = l :=
        List.filter_eq_self.mpr fun w hw => decide_eq_true fun k => hu w hw k.symm
      rw [List.filter_cons_of_neg (by simp), hrest, List.countP_cons]
    · rw [List.filter_cons_of_pos (by simpa using hu v hv), List.countP_cons, List.countP_cons, ← ih hl hv]
      omega

/-! ## The operations of the router -/

theorem coalesceNewest_length {s : SegRecord} {a b : List InkRecord} (h : coalesceNewest s a = some b) : b.length = a.length := by
  induction a generalizing b with
  | nil => cases h
  | cons x rest ih =>
    unfold coalesceNewest at h
    split at h
    · obtain ⟨c, hc, rfl⟩ := Option.map_eq_some_iff.mp h
      rw [List.length_cons, List.length_cons, ih hc]
    · cases x with
      | segRec t =>
        obtain ⟨-, hb⟩ := Option.ite_none_right_eq_some.mp h
        cases hb
        rfl
      | openRec t | closeRec t => cases h

/-- A merge takes no place. -/
theorem coalesceQueued_length {sent : Bool} {s : SegRecord} {a b : List InkRecord} (h : coalesceQueued sent s a = some b) :
    b.length = a.length := by
  unfold coalesceQueued at h
  split at h
  · obtain ⟨c, hc, rfl⟩ := Option.map_eq_some_iff.mp h
    rw [List.length_cons, List.length_cons, coalesceNewest_length hc]
  · exact coalesceNewest_length h

/-- A SEG takes a place only where none is owed, and a merge or a drop takes none (R120, R123). -/
theorem Sound.offerOverlaySeg (h : r.Sound) (s : SegRecord) : (r.offerOverlaySeg s).Sound := by
  unfold Router.offerOverlaySeg
  split
  · next hroom =>
    obtain ⟨hreserved, hoverlay, hshare⟩ := h
    have hroom : r.overlayQueue.length + r.overlayReservations + 1 ≤ 48 := of_decide_eq_true hroom
    refine ⟨hreserved, ?_, hshare⟩
    show (r.overlayQueue ++ [InkRecord.segRec s]).length + r.overlayReservations ≤ 48
    rw [List.length_append, List.length_singleton]
    omega
  · split
    · next q hq =>
      exact h.of_places (mapDelivery_places { r with overlayQueue := q, coalescedSegs := _ } _ fun _ => rfl)
        (coalesceQueued_length hq).le le_rfl
    · exact h.of_places (mapDelivery_places { r with droppedSegs := _ } _ fun _ => rfl) le_rfl le_rfl

/-- A queue takes a record, or does not. -/
theorem length_ite_append {α : Type} (b : Bool) (l : List α) (x : α) :
    (if b then l ++ [x] else l).length = l.length + if b then 1 else 0 := by
  cases b
  · rfl
  · exact List.length_append

/-- An OPEN takes a place in a queue where one more is left for its CLOSE, and none otherwise (R120). -/
theorem Sound.opened (h : r.Sound) {v : Delivery} {o : InkRecord} {s : ShareRecord} (ho : v.overlayReserved = v.overlayLive)
    (hs : v.shareReserved = v.shareLive) (hoverlay : v.overlayLive = true → r.overlayAdmits 2 = true)
    (hshare : v.shareLive = true → r.shareAdmits 2 = true) (n m : Word16) :
    Router.Sound
      { r with
        deliveries := r.deliveries ++ [v]
        overlayQueue := if v.overlayLive then r.overlayQueue ++ [o] else r.overlayQueue
        shareQueue := if v.shareLive then r.shareQueue ++ [s] else r.shareQueue
        suppressedStrokes := n
        truncatedStrokes := m } := by
  obtain ⟨hreserved, hboundO, hboundS⟩ := h
  refine ⟨fun u hu => ?_, ?_, ?_⟩
  · rcases List.mem_append.mp hu with hu | hu
    · exact hreserved u hu
    · rw [List.mem_singleton.mp hu]
      exact ⟨ho, hs⟩
  · have hroom (hl : v.overlayLive = true) : r.overlayQueue.length + r.overlayReservations + 2 ≤ 48 := of_decide_eq_true (hoverlay hl)
    unfold overlayReservations at hboundO hroom ⊢
    rw [length_ite_append, List.countP_append, List.countP_singleton, ho]
    split
    · next hl =>
      have := hroom hl
      omega
    · exact hboundO
  · have hroom (hl : v.shareLive = true) : r.shareQueue.length + r.shareReservations + 2 ≤ 64 := of_decide_eq_true (hshare hl)
    unfold shareReservations at hboundS hroom ⊢
    rw [length_ite_append, List.countP_append, List.countP_singleton, hs]
    split
    · next hl =>
      have := hroom hl
      omega
    · exact hboundS

/-- A CLOSE takes the places that were owed to it, and its delivery record ends (R121). -/
theorem Sound.closed (h : r.Sound) (hv : r.delivery id = some v) (o : InkRecord) (s : ShareRecord) :
    Router.Sound
      { r with
        deliveries := r.deliveries.filter fun u => u.id ≠ id
        overlayQueue := if v.overlayLive then r.overlayQueue ++ [o] else r.overlayQueue
        shareQueue := if v.shareLive then r.shareQueue ++ [s] else r.shareQueue } := by
  obtain ⟨hreserved, hoverlay, hshare⟩ := h
  obtain ⟨ho, hs⟩ := hreserved v (mem_of_delivery hv).1
  have hendO := countP_ended_le hv (·.overlayReserved)
  have hendS := countP_ended_le hv (·.shareReserved)
  rw [ho] at hendO
  rw [hs] at hendS
  refine ⟨fun u hu => hreserved u (List.mem_of_mem_filter hu), ?_, ?_⟩
  · unfold overlayReservations at hoverlay ⊢
    rw [length_ite_append]
    dsimp only
    omega
  · unfold shareReservations at hshare ⊢
    rw [length_ite_append]
    dsimp only
    omega

/-- The delivery records once the strokes of an id have stopped being share-live owe the share queue what those of other ids owe. -/
theorem unshared_shareReservations (l : List Delivery) (id : Word16) :
    (l.map fun u => if u.id = id then { u with shareLive := false, shareReserved := false } else u).countP (·.shareReserved) =
      (l.filter fun u => u.id ≠ id).countP (·.shareReserved) := by
  rw [List.countP_map, List.countP_filter]
  refine List.countP_congr fun u _ => ?_
  by_cases hu : u.id = id <;> simp [hu]

/-- They owe the overlay what they owed. -/
theorem unshared_overlayReservations (l : List Delivery) (id : Word16) :
    (l.map fun u => if u.id = id then { u with shareLive := false, shareReserved := false } else u).countP (·.overlayReserved) =
      l.countP (·.overlayReserved) := by
  rw [List.countP_map]
  refine List.countP_congr fun u _ => ?_
  by_cases hu : u.id = id <;> simp [hu]

/-- A SHARE_OFF close takes the place owed on the share queue, and its stroke stops being share-live (R127). -/
theorem Sound.sharedOff (h : r.Sound) (hv : r.delivery id = some v) (hl : v.shareLive = true) (s : ShareRecord) :
    (Router.mapDelivery id (fun u => { u with shareLive := false, shareReserved := false })
      { r with shareQueue := r.shareQueue ++ [s] }).Sound := by
  obtain ⟨hreserved, hoverlay, hshare⟩ := h
  have hended := countP_ended_le hv (·.shareReserved)
  rw [if_pos ((hreserved v (mem_of_delivery hv).1).2.trans hl)] at hended
  unfold Router.Sound overlayReservations shareReservations mapDelivery
  dsimp only
  rw [unshared_overlayReservations, unshared_shareReservations, List.length_append, List.length_singleton]
  unfold shareReservations at hshare
  refine ⟨fun w hw => ?_, hoverlay, by omega⟩
  obtain ⟨u, hu, rfl⟩ := List.mem_map.mp hw
  split
  · exact ⟨(hreserved u hu).1, rfl⟩
  · exact hreserved u hu

/-- At RESTART one record at most is left, and nothing is owed (R131). -/
theorem restarted_sound (r : Router) : r.restarted.Sound := by
  refine ⟨nofun, ?_, Nat.zero_le _⟩
  show (if r.overlayTx.isSome then r.overlayQueue.take 1 else []).length ≤ 48
  split
  · exact (List.length_take_le 1 _).trans (by decide)
  · exact Nat.zero_le _

end Router

namespace Device

variable {placed : Prop} {d e : Device}

/-! ## Framing -/

/-- A build takes records off the share queue (R138). -/
theorem buildFrame_routerSound (h : d.router.Sound) : d.buildFrame.router.Sound := by
  unfold buildFrame
  split
  · exact h
  · split
    · exact h
    · exact h.of_places rfl le_rfl (by simp)

theorem buildWhile_routerSound (h : d.router.Sound) (least n : Nat) : (buildWhile least n d).router.Sound := by
  induction n generalizing d with
  | zero => exact h
  | succ n ih =>
    unfold buildWhile
    split
    · exact ih (buildFrame_routerSound h)
    · exact h

/-- Both branches of a choice. -/
theorem ite_routerSound {a b : Device} {c : Prop} [Decidable c] (h : c → a.router.Sound) (k : ¬c → b.router.Sound) :
    (if c then a else b).router.Sound := by
  split
  · next hc => exact h hc
  · next hc => exact k hc

theorem sixRecordTrigger_routerSound (h : d.router.Sound) : d.sixRecordTrigger.router.Sound :=
  ite_routerSound (fun _ => buildWhile_routerSound h _ _) fun _ => h

theorem drain_routerSound (h : d.router.Sound) : d.drain.router.Sound :=
  have hbuilt := buildWhile_routerSound h 1 2
  ite_routerSound (fun _ => hbuilt) fun _ => hbuilt

theorem flushTrigger_routerSound (h : d.router.Sound) : d.flushTrigger.router.Sound :=
  ite_routerSound (fun _ => h) fun _ => ite_routerSound (fun _ => buildFrame_routerSound h) fun _ => h

theorem takeFreedBuffer_routerSound (h : d.router.Sound) : d.takeFreedBuffer.router.Sound := by
  unfold takeFreedBuffer
  split
  · exact sixRecordTrigger_routerSound (ite_routerSound (fun _ => buildFrame_routerSound h) fun _ => h)
  · exact drain_routerSound h
  · exact h

theorem frameCompletes_routerSound (h : d.router.Sound) : d.frameCompletes.router.Sound := by
  unfold frameCompletes
  split
  · exact takeFreedBuffer_routerSound h
  · exact h

/-! ## Records taken by the router -/

theorem routeOpen_routerSound (h : d.router.Sound) (o : OpenRecord) (st : Steering) : (d.routeOpen o st).router.Sound := by
  unfold routeOpen
  extract_lets r oa oi sa si orf srf v d1 d2 d3
  have h1 : d1.router.Sound :=
    h.opened (v := v) rfl rfl (fun hl => (Bool.and_eq_true_iff.mp hl).2) (fun hl => (Bool.and_eq_true_iff.mp hl).2) _ _
  have h2 : d2.router.Sound := ite_routerSound (fun _ => h1) fun _ => h1
  have h3 : d3.router.Sound := ite_routerSound (fun _ => h2) fun _ => h2
  exact ite_routerSound (fun _ => sixRecordTrigger_routerSound h3) fun _ => h3

/-- On the share side too a SEG takes a place only where none is owed, and else cuts its stroke short (R120, R125). -/
theorem offerShareSeg_routerSound (h : d.router.Sound) (i : Slot) (s : SegRecord) : (d.offerShareSeg i s).router.Sound := by
  refine ite_routerSound (fun hroom => sixRecordTrigger_routerSound ?_) fun _ => ?_
  · obtain ⟨hreserved, hoverlay, hshare⟩ := h
    have hroom : d.router.shareQueue.length + d.router.shareReservations + 1 ≤ 64 := of_decide_eq_true hroom
    refine ⟨hreserved, hoverlay, ?_⟩
    show (d.router.shareQueue ++ [ShareRecord.segRec (shareForm s)]).length + d.router.shareReservations ≤ 64
    rw [List.length_append, List.length_singleton]
    omega
  · exact h.of_places (Router.mapDelivery_places { d.router with truncatedStrokes := _ } _ fun _ => rfl) le_rfl le_rfl

theorem routeSeg_routerSound (h : d.router.Sound) (i : Slot) (s : SegRecord) : (d.routeSeg i s).router.Sound := by
  unfold routeSeg
  split
  · exact h
  · extract_lets d1
    have h1 : d1.router.Sound := ite_routerSound (fun _ => h.offerOverlaySeg s) fun _ => h
    exact ite_routerSound (fun _ => offerShareSeg_routerSound h1 i s) fun _ => h1

theorem routeClose_routerSound (h : d.router.Sound) (id n : Word16) (reason : CloseReason) (gap : Bool) (time : Word16) :
    (d.routeClose id n reason gap time).router.Sound := by
  unfold routeClose
  extract_lets r
  split
  · exact h
  · next v hv =>
    extract_lets oc sc d1
    have h1 : d1.router.Sound := h.closed hv _ _
    exact ite_routerSound (fun _ => sixRecordTrigger_routerSound h1) fun _ => h1

theorem shareOffClose_routerSound (h : d.router.Sound) (i : Slot) : (d.shareOffClose i).router.Sound := by
  unfold shareOffClose
  extract_lets k
  split
  · exact h
  · next v hv => exact ite_routerSound (fun hl => h.sharedOff hv (Bool.and_eq_true_iff.mp hl).2 _) fun _ => h

theorem shareOff_routerSound (h : d.router.Sound) : d.shareOff.router.Sound := by
  rw [shareOff_eq]
  exact List.foldlRecOn allSlots shareOffClose (motive := fun e : Device => e.router.Sound) h fun _ he i _ => shareOffClose_routerSound he i

theorem disableShare_routerSound (h : d.router.Sound) : d.disableShare.router.Sound := by
  unfold disableShare
  extract_lets g f
  exact drain_routerSound (shareOff_routerSound (d := { d with framer := f }) h)

/-! ## Strokes -/

theorem closeStroke_routerSound (h : d.router.Sound) (i : Slot) (reason : CloseReason) (time : Word32) :
    (d.closeStroke i reason time).router.Sound := by
  cases ho : (d.context i).isOpen with
  | false => rwa [closeStroke_of_closed ho]
  | true =>
    obtain ⟨-, -, hrouter, -⟩ := closeStroke_closed ho reason time
    rw [hrouter]
    exact routeClose_routerSound h _ _ _ _ _

/-- Every operation on the ink path keeps the queues of the router within bounds. -/
theorem InkMove.routerSound (m : InkMove placed d e) (h : d.router.Sound) : e.router.Sound := by
  cases m with
  | start _ q => exact routeOpen_routerSound (d := d.beforeRouting _ q) h _ _
  | emit i p width stamp => exact routeSeg_routerSound (d := d.setContext i _) h _ _
  | close i reason time => exact closeStroke_routerSound h i reason time
  | disable _ => exact disableShare_routerSound h
  | flush _ c =>
    have hflushed : d.flushTrigger.router.Sound := flushTrigger_routerSound h
    exact hflushed
  | frameEnd => exact frameCompletes_routerSound h
  | restart => exact d.router.restarted_sound
  | reset v =>
    obtain ⟨-, hreset, -⟩ := reset_sound
    rw [hardResetDevice_eq]
    exact hreset
  | aside hp =>
    simp only [inkPath, Prod.mk.injEq] at hp
    rw [hp.2.1]
    exact h
  | overlayEnd => exact ite_routerSound (fun _ => h.of_places rfl (by simp) le_rfl) fun _ => h
  | overlayBegin ready =>
    unfold overlayBegins
    split <;> exact h
  | egressBegin ready =>
    unfold egressBegins frameBegins
    repeat' split
    all_goals exact h
  | clearItem g n =>
    unfold Device.clearItem
    split <;> exact h
  | laneGap | identify | enable | pacing | tick | clear => exact h

theorem InkMoves.routerSound (m : InkMoves placed d e) (h : d.router.Sound) : e.router.Sound := by
  induction m with
  | refl => exact h
  | tail _ hm ih => exact hm.routerSound ih

end Device

end Sys2Proof.Machine
end

section
/-! The frame buffers (R137): a build, whatever asks for it, files its frame behind those built before and touches no frame in
transmission. -/

namespace Sys2Proof.Machine

open Device

/-! ## Buffers and their order -/

/-- The HELD buffers are those in the order of building, each once. -/
def ShareFramer.Filed (f : ShareFramer) : Prop :=
  f.heldOrder.Nodup ∧ ∀ b : Fin 2, (f.buffers[b]).isHeld = true ↔ b ∈ f.heldOrder

/-- Between `f` and `g` the buffers have stayed filed, and the same frames are SENDING. -/
def ShareFramer.Kept (f g : ShareFramer) : Prop :=
  f.Filed → g.Filed ∧ ∀ b : Fin 2, (g.buffers[b]).isSending = (f.buffers[b]).isSending

theorem framesSound_iff {d : Device} :
    d.FramesSound ↔ d.framer.Filed ∧ ∀ b : Fin 2, (d.framer.buffers[b]).isSending = d.arbiter.sendsFrame b := by
  unfold Device.FramesSound ShareFramer.Filed
  rw [forall_and, and_assoc]

namespace ShareFramer

variable {f g h : ShareFramer} {b c : Fin 2} {x : FrameBuffer}

/-- Other fields written. -/
theorem Kept.of_buffers (hb : g.buffers = f.buffers) (ho : g.heldOrder = f.heldOrder) : f.Kept g := by
  unfold Kept Filed
  rw [hb, ho]
  exact fun k => ⟨k, fun _ => rfl⟩

theorem Kept.of_framer (h : g = f) : f.Kept g := .of_buffers (by rw [h]) (by rw [h])

theorem Kept.trans (k : f.Kept g) (l : g.Kept h) : f.Kept h := fun hf =>
  have ⟨hg, hsame⟩ := k hf
  have ⟨hh, hsame'⟩ := l hg
  ⟨hh, fun b => (hsame' b).trans (hsame b)⟩

theorem set_same (v : Vector FrameBuffer 2) (b : Fin 2) (x : FrameBuffer) : (v.set b x)[b] = x := Vector.getElem_set_self b.isLt

theorem set_other (v : Vector FrameBuffer 2) (x : FrameBuffer) (hc : c ≠ b) : (v.set b x)[c] = v[c] :=
  Vector.getElem_set_ne b.isLt c.isLt fun k => hc (Fin.ext k.symm)

/-- A buffer that was not HELD becomes HELD, behind all others. -/
theorem Filed.file (hf : f.Filed) (hb : b ∉ f.heldOrder) (hx : x.isHeld = true) (hbuffers : g.buffers = f.buffers.set b x)
    (horder : g.heldOrder = f.heldOrder ++ [b]) : g.Filed := by
  obtain ⟨hnodup, hheld⟩ := hf
  unfold Filed
  rw [hbuffers, horder]
  refine ⟨List.nodup_append.mpr ⟨hnodup, List.nodup_singleton b, fun c hc k hk => ?_⟩, fun c => ?_⟩
  · rw [List.mem_singleton.mp hk]
    exact fun hcb => hb (hcb ▸ hc)
  · rw [List.mem_append, List.mem_singleton]
    by_cases hc : c = b
    · subst hc
      rw [set_same]
      exact iff_of_true hx (.inr rfl)
    · rw [set_other _ _ hc, hheld c, or_iff_left hc]

/-- The buffer filed first leaves the order. -/
theorem Filed.unfile {rest : List (Fin 2)} (hf : f.Filed) (ho : f.heldOrder = b :: rest) (hx : x.isHeld = false)
    (hbuffers : g.buffers = f.buffers.set b x) (horder : g.heldOrder = rest) : g.Filed := by
  obtain ⟨hnodup, hheld⟩ := hf
  rw [ho] at hnodup hheld
  obtain ⟨hb, hrest⟩ := List.nodup_cons.mp hnodup
  unfold Filed
  rw [hbuffers, horder]
  refine ⟨hrest, fun c => ?_⟩
  by_cases hc : c = b
  · subst hc
    rw [set_same, hx]
    exact iff_of_false Bool.false_ne_true hb
  · rw [set_other _ _ hc, hheld c, List.mem_cons, or_iff_right hc]

/-- A buffer written that is HELD neither before nor after. -/
theorem Filed.set (hf : f.Filed) (hb : (f.buffers[b]).isHeld = false) (hx : x.isHeld = false)
    (hbuffers : g.buffers = f.buffers.set b x) (horder : g.heldOrder = f.heldOrder) : g.Filed := by
  obtain ⟨hnodup, hheld⟩ := hf
  unfold Filed
  rw [hbuffers, horder]
  refine ⟨hnodup, fun c => ?_⟩
  by_cases hc : c = b
  · subst hc
    rw [set_same, ← hheld c, hb, hx]
  · rw [set_other _ _ hc, hheld c]

/-- At RESTART no buffer is HELD, and a SENDING one stays. -/
theorem restarted_kept (f : ShareFramer) : f.Kept f.restarted := by
  have hbuffer : ∀ b : Fin 2, f.restarted.buffers[b] = (f.buffers[b]).restarted := fun b => Vector.getElem_map ..
  refine fun _ => ⟨⟨List.nodup_nil, fun b => ?_⟩, fun b => ?_⟩
  · rw [hbuffer]
    cases f.buffers[b] <;> exact iff_of_false Bool.false_ne_true List.not_mem_nil
  · rw [hbuffer]
    cases f.buffers[b] <;> rfl

end ShareFramer

namespace Device

variable {d e : Device} {i : Slot}

/-! ## Builds -/

theorem freeBuffer_empty {f : ShareFramer} {b : Fin 2} (h : f.freeBuffer = some b) : f.buffers[b] = .empty := by
  rw [freeBuffer_eq] at h
  split at h
  · next h0 => cases h; exact h0
  · split at h
    · next h1 => cases h; exact h1
    · cases h

/-- A build fills an EMPTY buffer and files it (R137, R138). -/
theorem buildFrame_framerKept (d : Device) : d.framer.Kept d.buildFrame.framer := by
  unfold buildFrame
  split
  · exact .of_buffers rfl rfl
  · next b hb =>
    split
    · exact .of_buffers rfl rfl
    · have hempty := freeBuffer_empty hb
      refine fun hf => ⟨hf.file (b := b) (fun k => ?_) rfl rfl rfl, fun c => ?_⟩
      · have hheld := (hf.2 b).mpr k
        rw [hempty] at hheld
        cases hheld
      · by_cases hc : c = b
        · subst hc
          rw [ShareFramer.set_same, hempty]
          rfl
        · rw [ShareFramer.set_other _ _ hc]

theorem ite_framerKept {f : ShareFramer} {a b : Device} {c : Prop} [Decidable c] (h : f.Kept a.framer) (k : f.Kept b.framer) :
    f.Kept (if c then a else b).framer := by
  split
  · exact h
  · exact k

theorem buildWhile_framerKept (least n : Nat) (d : Device) : d.framer.Kept (buildWhile least n d).framer := by
  induction n generalizing d with
  | zero => exact .of_buffers rfl rfl
  | succ n ih => exact ite_framerKept ((buildFrame_framerKept d).trans (ih _)) (.of_buffers rfl rfl)

theorem sixRecordTrigger_framerKept {f : ShareFramer} (h : d.framer = f) : f.Kept d.sixRecordTrigger.framer :=
  h ▸ ite_framerKept (buildWhile_framerKept _ _ d) (.of_buffers rfl rfl)

/-! ## Strokes -/

theorem routeOpen_framerKept (o : OpenRecord) (st : Steering) (d : Device) : d.framer.Kept (d.routeOpen o st).framer := by
  unfold routeOpen
  extract_lets r oa oi sa si orf srf v d1 d2 d3
  have h3 : d3.framer = d.framer :=
    ite_keeps (f := framer) (c := srf = true) (ite_keeps (f := framer) (c := orf = true) rfl rfl)
      (ite_keeps (f := framer) (c := orf = true) rfl rfl)
  exact ite_framerKept (sixRecordTrigger_framerKept h3) (.of_framer h3)

theorem routeSeg_framerKept (i : Slot) (s : SegRecord) (d : Device) : d.framer.Kept (d.routeSeg i s).framer := by
  unfold routeSeg
  split
  · exact .of_buffers rfl rfl
  · extract_lets d1
    have h1 : d1.framer = d.framer := ite_keeps (f := framer) rfl rfl
    have hshare : d.framer.Kept (d1.offerShareSeg i s).framer :=
      ite_framerKept (sixRecordTrigger_framerKept h1) (.of_framer h1)
    exact ite_framerKept hshare (.of_framer h1)

theorem routeClose_framerKept (id n : Word16) (reason : CloseReason) (gap : Bool) (time : Word16) (d : Device) :
    d.framer.Kept (d.routeClose id n reason gap time).framer := by
  unfold routeClose
  extract_lets r
  split
  · exact .of_buffers rfl rfl
  · exact ite_framerKept (sixRecordTrigger_framerKept rfl) (.of_buffers rfl rfl)

theorem closeStroke_framerKept (i : Slot) (reason : CloseReason) (time : Word32) (d : Device) :
    d.framer.Kept (d.closeStroke i reason time).framer := by
  cases ho : (d.context i).isOpen with
  | false =>
    rw [closeStroke_of_closed ho]
    exact .of_buffers rfl rfl
  | true =>
    obtain ⟨-, -, -, hframer, -⟩ := closeStroke_closed ho reason time
    rw [hframer]
    exact routeClose_framerKept _ _ _ _ _ d

/-! ## What pens, strokes and timers do -/

/-- Between `d` and `e` frames have been built at most: no unit has begun or ended, no reply has been formed, and the responder has stood
still. -/
def Undisturbed (d e : Device) : Prop := d.framer.Kept e.framer ∧ e.arbiter = d.arbiter ∧ e.responder = d.responder

/-- The frame buffers with their order, the egress arbiter and the responder. -/
def desk (d : Device) := (d.framer.buffers, d.framer.heldOrder, d.arbiter, d.responder)

theorem Undisturbed.aside (h : e.desk = d.desk) : d.Undisturbed e := by
  simp only [desk, Prod.mk.injEq] at h
  obtain ⟨hb, ho, ha, hr⟩ := h
  exact ⟨.of_buffers hb ho, ha, hr⟩

theorem Undisturbed.trans {f : Device} (h : d.Undisturbed e) (k : e.Undisturbed f) : d.Undisturbed f := by
  obtain ⟨hf, ha, hr⟩ := h
  obtain ⟨kf, ka, kr⟩ := k
  exact ⟨hf.trans kf, ka.trans ha, kr.trans hr⟩

theorem Undisturbed.ite {a b : Device} {c : Prop} [Decidable c] (h : d.Undisturbed a) (k : d.Undisturbed b) :
    d.Undisturbed (if c then a else b) := by
  split
  · exact h
  · exact k

theorem Undisturbed.fold {α : Type} {f : Device → α → Device} (h : ∀ e a, Undisturbed e (f e a)) (l : List α) (d : Device) :
    d.Undisturbed (l.foldl f d) := by
  induction l generalizing d with
  | nil => exact .aside rfl
  | cons a l ih => exact (h d a).trans (ih _)

theorem Within.undisturbed (h : d.Within i e) (hf : d.framer.Kept e.framer) : d.Undisturbed e := by
  obtain ⟨-, -, -, hresponder, harbiter, -⟩ := h
  exact ⟨hf, harbiter, hresponder⟩

theorem Framed.undisturbed (h : d.Framed e) (hf : d.framer.Kept e.framer) : d.Undisturbed e := Within.undisturbed (i := 0) h.within hf

theorem buildFrame_undisturbed (d : Device) : d.Undisturbed d.buildFrame := (buildFrame_framed d).undisturbed (buildFrame_framerKept d)

theorem closeStroke_undisturbed (i : Slot) (reason : CloseReason) (time : Word32) (d : Device) :
    d.Undisturbed (d.closeStroke i reason time) :=
  (closeStroke_within i reason time d).undisturbed (closeStroke_framerKept i reason time d)

/-- Whatever the contact unit asks for. -/
theorem Request.undisturbed (h : Request i d e) : d.Undisturbed e := by
  cases h with
  | start q => exact (openStroke_within i q d).undisturbed (routeOpen_framerKept _ _ (d.beforeRouting i q))
  | emit p s => exact (emitSeg_within i p _ _ d).undisturbed (routeSeg_framerKept i _ (d.setContext i _))
  | close reason time => exact closeStroke_undisturbed i reason time d
  | refuse z =>
    have hframer : (d.blockSlot i z).framer = d.framer := ite_keeps (f := framer) rfl rfl
    exact (blockSlot_within i z d).undisturbed (.of_framer hframer)
  | contact | seed | smooth | capture => exact .aside rfl

theorem Requests.undisturbed (h : Requests i d e) : d.Undisturbed e := by
  induction h with
  | refl => exact .aside rfl
  | tail _ hr ih => exact ih.trans hr.undisturbed

theorem forceFree_undisturbed (i : Slot) (d : Device) : d.Undisturbed (d.forceFree i) :=
  (closeStroke_undisturbed i .forced d.clock d).trans (.aside rfl)

theorem disableSlot_undisturbed (i : Slot) (d : Device) : d.Undisturbed (d.disableSlot i) := by
  rw [disableSlot_cases]
  exact .ite ((forceFree_undisturbed i d).trans (.aside rfl)) (.aside rfl)

theorem bindSlot_undisturbed (i : Slot) (t : Word24) (l : Lane) (a : Admission) (stamp : Word32) (d : Device) :
    d.Undisturbed (d.bindSlot i t l a stamp) := .aside rfl

theorem evict_undisturbed (i : Slot) (d : Device) : d.Undisturbed (d.evict i) := .aside rfl

theorem bindAttempt_undisturbed (t : Word24) (l : Lane) (stamp : Word32) (d : Device) : d.Undisturbed (d.bindAttempt t l stamp).2 := by
  unfold bindAttempt chooseSlot
  split
  · exact .aside rfl
  · cases d.freeSlotNo with
    | some i => exact bindSlot_undisturbed i t l _ stamp d
    | none =>
      cases d.oldestAway with
      | some i => exact (evict_undisturbed i d).trans (bindSlot_undisturbed i t l _ stamp _)
      | none => exact .aside rfl

theorem penSample_undisturbed (l : Lane) (s : Sample) (d : Device) : d.Undisturbed (d.penSample l s) := by
  unfold penSample
  split
  · next i _ => exact .trans (e := d.seen i l s.stamp) (.aside rfl) (takeSample_requests i s _).undisturbed
  · have hbind := bindAttempt_undisturbed s.fields.transducer l s.stamp d
    generalize d.bindAttempt s.fields.transducer l s.stamp = r at hbind ⊢
    obtain ⟨_ | i, e⟩ := r
    · exact hbind
    · exact hbind.trans (takeSample_requests i s e).undisturbed

theorem penProximity_undisturbed (l : Lane) (t : Word24) (ev : ProximityEvent) (stamp : Word32) (d : Device) :
    d.Undisturbed (d.penProximity l t ev stamp) := by
  unfold penProximity
  split
  · next i _ => exact .trans (e := d.seen i l stamp) (.aside rfl) (takeEnter_requests i _).undisturbed
  · next i _ => exact .trans (e := d.seen i l stamp) (.aside rfl) (takeLeave_requests i _ stamp).undisturbed
  · exact bindAttempt_undisturbed t l stamp d
  · exact .aside rfl

theorem checkSequence_undisturbed (l : Lane) (n : BitVec 4) (d : Device) : d.Undisturbed (d.checkSequence l n) :=
  .ite (.aside rfl) (.aside rfl)

theorem presenceExpires_undisturbed (i : Slot) (d : Device) : d.Undisturbed (d.presenceExpires i) :=
  .ite (dropRange_requests i d .lost).undisturbed (.aside rfl)

theorem flushTrigger_undisturbed (d : Device) : d.Undisturbed d.flushTrigger :=
  .ite (.aside rfl) (.ite (buildFrame_undisturbed d) (.aside rfl))

theorem pacerExpires_undisturbed (d : Device) : d.Undisturbed d.pacerExpires :=
  .ite ((flushTrigger_undisturbed d).trans (.aside rfl)) (.aside rfl)

theorem tick_undisturbed (d : Device) : d.Undisturbed d.tick := .aside rfl

theorem millisecond_undisturbed (d : Device) : d.Undisturbed d.millisecond := by
  have hslots : d.Undisturbed (allSlots.foldl slotExpires d) :=
    .fold (fun e i => (liftHoldExpires_requests i e).undisturbed.trans (presenceExpires_undisturbed i _)) allSlots d
  exact (hslots.trans (pacerExpires_undisturbed _)).trans (tick_undisturbed _)

theorem linkFalls_undisturbed (d : Device) : d.Undisturbed d.linkFalls :=
  have hfold := Undisturbed.fold (f := fun e i => e.dropRange i .lost) (fun e i => (dropRange_requests i e .lost).undisturbed) allSlots
    d.lineDown
  .trans (.aside rfl) hfold

theorem drain_undisturbed (d : Device) : d.Undisturbed d.drain :=
  have hbuilt := (buildWhile_framed 1 2 d).undisturbed (buildWhile_framerKept 1 2 d)
  .ite (hbuilt.trans (.aside rfl)) hbuilt

theorem shareOffClose_undisturbed (d : Device) (i : Slot) : d.Undisturbed (d.shareOffClose i) := by
  unfold shareOffClose
  extract_lets k
  split
  · exact .aside rfl
  · exact .ite (.aside rfl) (.aside rfl)

theorem disableShare_undisturbed (d : Device) : d.Undisturbed d.disableShare := by
  unfold disableShare
  extract_lets g f
  have hstopped : d.Undisturbed { d with framer := f } := .aside rfl
  exact (hstopped.trans (.fold shareOffClose_undisturbed allSlots _)).trans (drain_undisturbed _)

theorem takeFreedBuffer_undisturbed (d : Device) : d.Undisturbed d.takeFreedBuffer := by
  have htrigger (e : Device) : e.Undisturbed e.sixRecordTrigger := (sixRecordTrigger_framed e).undisturbed (sixRecordTrigger_framerKept rfl)
  unfold takeFreedBuffer
  split
  · exact .trans (.ite (buildFrame_undisturbed d) (.aside rfl)) (htrigger _)
  · exact drain_undisturbed d
  · exact .aside rfl

end Device

end Sys2Proof.Machine
end

section
/-! The reply queue and the command queue (R147, R153, R154): what a command adds to the replies, and when the taking of commands ends. -/

namespace Sys2Proof.Machine

open Device

/-! ## The reply queue -/

/-- At most 4 reply cells, the first of them in transmission where one is. -/
def EgressArbiter.Bounded (a : EgressArbiter) : Prop := a.replies.length ≤ 4 ∧ a.sendsHead = true

theorem EgressArbiter.sendsHead_iff {a : EgressArbiter} :
    a.sendsHead = true ↔ ∀ b, a.inTransmission = some (.reply b) → a.replies.head?.map ReplyCell.bytes = some b := by
  unfold sendsHead
  split
  · next b hb =>
    rw [decide_eq_true_iff, hb]
    exact ⟨fun h c hc => by cases hc; exact h, fun h => h b rfl⟩
  · next hother => exact iff_of_true rfl fun b hb => absurd hb (hother b)

/-- A reply behind the others leaves the head as it was. -/
theorem EgressArbiter.Bounded.append {a : EgressArbiter} (h : a.Bounded) (hroom : a.replies.length < 4) (r : ReplyCell) :
    Bounded { a with replies := a.replies ++ [r] } := by
  obtain ⟨-, hhead⟩ := h
  refine ⟨by simpa using hroom, sendsHead_iff.mpr fun b hb => ?_⟩
  have hfirst := sendsHead_iff.mp hhead b hb
  cases hr : a.replies with
  | nil => simp [hr] at hfirst
  | cons x l => simpa [hr] using hfirst

/-- RESTART leaves the reply in transmission, and room for another (R166). -/
theorem EgressArbiter.Bounded.restarted {a : EgressArbiter} (h : a.Bounded) :
    a.restarted.Bounded ∧ a.restarted.replies.length < 4 := by
  obtain ⟨-, hhead⟩ := h
  unfold EgressArbiter.restarted Bounded
  rw [sendsHead_iff] at hhead ⊢
  split
  · next b hb =>
    have hlength : (a.replies.take 1).length ≤ 1 := List.length_take_le 1 _
    refine ⟨⟨by dsimp only; omega, fun c hc => ?_⟩, by dsimp only; omega⟩
    rw [← hhead c hc, List.head?_take]
    rfl
  · next hother => exact ⟨⟨Nat.zero_le _, fun b hb => absurd hb (hother b)⟩, Nat.zero_lt_succ 3⟩

namespace Device

variable {d e : Device} {i : Slot}

/-- Between `d` and `e` frames have been built and replies formed, within the bounds, and no unit has begun or ended. -/
def Tended (d e : Device) : Prop :=
  d.framer.Kept e.framer ∧ e.arbiter.inTransmission = d.arbiter.inTransmission ∧ (d.arbiter.Bounded → e.arbiter.Bounded)

theorem Tended.refl (d : Device) : d.Tended d := ⟨.of_buffers rfl rfl, rfl, id⟩

theorem Tended.trans {f : Device} (h : d.Tended e) (k : e.Tended f) : d.Tended f := by
  obtain ⟨hf, ht, hb⟩ := h
  obtain ⟨kf, kt, kb⟩ := k
  exact ⟨hf.trans kf, kt.trans ht, kb ∘ hb⟩

theorem Tended.ite {a b : Device} {c : Prop} [Decidable c] (h : c → d.Tended a) (k : ¬c → d.Tended b) :
    d.Tended (if c then a else b) := by
  split
  · next hc => exact h hc
  · next hc => exact k hc

theorem Tended.aside (hf : d.framer.Kept e.framer) (ha : e.arbiter = d.arbiter) : d.Tended e := ⟨hf, by rw [ha], by rw [ha]; exact id⟩

theorem Undisturbed.tended (h : d.Undisturbed e) : d.Tended e := .aside h.1 h.2.1

/-- A reply where there is room for it, behind an effect that leaves the replies alone. -/
theorem Undisturbed.answer {tag : Word16} {code : Byte} {r : Result} {p : List Byte} (h : d.Undisturbed e)
    (hroom : d.arbiter.replies.length < 4) : d.Tended (e.reply tag code r p) := by
  have ⟨_, ha, _⟩ := h
  rw [← ha] at hroom
  exact h.tended.trans ⟨.of_buffers rfl rfl, rfl, fun hb => hb.append hroom _⟩

theorem Tended.answer {tag : Word16} {code : Byte} {r : Result} {p : List Byte} (hroom : d.arbiter.replies.length < 4)
    (h : e.desk = d.desk) : d.Tended (e.reply tag code r p) := (Undisturbed.aside h).answer hroom

theorem Tended.reply {tag : Word16} {code : Byte} {r : Result} {p : List Byte} (hroom : d.arbiter.replies.length < 4) :
    d.Tended (d.reply tag code r p) := .answer hroom rfl

/-- The responder alone has moved. -/
theorem Tended.responder (r : Responder) (d : Device) : d.Tended { d with responder := r } := .aside (.of_buffers rfl rfl) rfl

/-! ## Range reads -/

theorem clearRead_tended (t : ReadTarget) (n : Nat) (d : Device) : d.Tended (d.clearRead t n) := by
  refine .aside ?_ (clearRead_arbiter t n d)
  unfold clearRead
  split
  · unfold clearItem
    split <;> exact .of_buffers rfl rfl
  · exact .of_buffers rfl rfl

/-- One item of a read is one reply (R157). -/
theorem readItem_tended (hroom : d.arbiter.replies.length < 4) (r : RangeRead) : d.Tended (d.readItem r) := by
  have hreply (code : Byte) (result : Result) (p : List Byte) : d.Tended (d.reply r.tag code result p) := .reply hroom
  exact .ite (fun _ => (hreply _ _ _).trans (.responder _ _)) fun _ =>
    ((hreply _ _ _).trans (clearRead_tended _ _ _)).trans (.responder _ _)

theorem readBurst_tended (n : Nat) (d : Device) : d.Tended (readBurst n d) := by
  induction n generalizing d with
  | zero => exact .refl d
  | succ n ih =>
    unfold readBurst
    split
    · exact .refl d
    · exact .ite (fun hroom => (readItem_tended ((replyRoom_iff d).mp hroom) _).trans (ih _)) fun _ => .refl d

theorem startRead_tended (r : RangeRead) (d : Device) : d.Tended (d.startRead r) :=
  .trans (.responder _ d) (readBurst_tended _ (d.setReading (some r)))

theorem tableRead_tended (hroom : d.arbiter.replies.length < 4) (tag : Word16) (t : ReadTarget) (a b : Byte) (n : Nat) :
    d.Tended (d.tableRead tag t a b n) := .ite (fun _ => startRead_tended _ d) fun _ => .reply hroom

theorem nextItem_tended (d : Device) : d.Tended d.nextItem := by
  unfold nextItem
  split
  · exact .refl d
  · exact .ite (fun hroom => readItem_tended ((replyRoom_iff d).mp hroom) _) fun _ => .refl d

/-! ## Executions -/

theorem onBound_tended (hroom : d.arbiter.replies.length < 4) (tag : Word16) (code : Byte) (slot : BitVec 4)
    {f : Slot → Device → Device} (h : ∀ i, d.Undisturbed (f i d)) : d.Tended (d.onBound tag code slot f) := by
  unfold onBound
  split
  · exact .reply hroom
  · exact .ite (fun _ => .reply hroom) fun _ => (h _).answer hroom

theorem writeStaging_tended (hroom : d.arbiter.replies.length < 4) (tag : Word16) (code : Byte) (f : Bank → Bank) :
    d.Tended (d.writeStaging tag code f) :=
  .ite (fun _ => .reply hroom) fun _ => .ite (fun _ => .reply hroom) fun _ =>
    .answer hroom (by rfl)

end Device

theorem runRestart_tended (t : Word16) (d : Device) : d.Tended (runRestart t d) := by
  refine ⟨d.framer.restarted_kept, d.arbiter.restarted_inTransmission, fun hb => ?_⟩
  obtain ⟨hbounded, hleft⟩ := hb.restarted
  exact hbounded.append hleft _

section
variable {d : Device} (hroom : d.arbiter.replies.length < 4)
include hroom

theorem runSetSlotEnable_tended (t : Word16) (i : BitVec 4) (on : Bool) : d.Tended (runSetSlotEnable t i on d) := by
  unfold runSetSlotEnable
  split
  · exact .reply hroom
  · cases on
    · exact Undisturbed.answer (disableSlot_undisturbed _ d) hroom
    · exact .answer hroom (by rfl)

theorem runRetireNow_tended (t : Word16) : d.Tended (runRetireNow t d) := by
  have hretired : d.Undisturbed (d.retiringSlots.foldl retireStroke d) :=
    .fold (fun e i => (retireStroke_requests i e).undisturbed) d.retiringSlots d
  exact .ite (fun _ => .reply hroom) fun _ => .ite (fun _ => .reply hroom) fun _ =>
    hretired.answer hroom

theorem runShareEnable_tended (t : Word16) : d.Tended (runShareEnable t d) := by
  unfold runShareEnable
  split
  · exact .reply hroom
  · exact .reply hroom
  · exact .ite (fun _ => .answer hroom (by rfl)) fun _ => .reply hroom

theorem runShareDisable_tended (t : Word16) : d.Tended (runShareDisable t d) := by
  unfold runShareDisable
  split
  · exact Undisturbed.answer (disableShare_undisturbed d) hroom
  · exact .reply hroom

theorem runFlush_tended (t : Word16) : d.Tended (runFlush t d) := by
  unfold runFlush
  split
  · exact Undisturbed.answer ((flushTrigger_undisturbed d).trans (.aside rfl)) hroom
  · exact .reply hroom

theorem runAck_tended (t : Word16) (k : BitVec 4) (j : BitVec 5) : d.Tended (runAck t k j d) := by
  unfold runAck
  split
  · split
    · exact .reply hroom
    · exact .answer hroom (by rfl)
  · exact .reply hroom

/-- An execution builds frames and forms replies, within the bounds, where the reply queue has room for one (R154, R155). -/
theorem runCommand_tended (i : Instr) : d.Tended (runCommand i d) := by
  cases i with
  | restart t => exact runRestart_tended t d
  | ack t k j => exact runAck_tended hroom t k j
  | setSlotEnable t i on => exact runSetSlotEnable_tended hroom t i on
  | retireNow t => exact runRetireNow_tended hroom t
  | shareEnable t => exact runShareEnable_tended hroom t
  | shareDisable t => exact runShareDisable_tended hroom t
  | flush t => exact runFlush_tended hroom t
  | readStatus t => exact .trans (e := d.reply t 0x10 .done d.statusPayload) (.reply hroom) (.responder _ _)
  | unbind t i => exact onBound_tended hroom t 0x2A i fun i => forceFree_undisturbed i d
  | forceLeave t i =>
    exact onBound_tended hroom t 0x2B i (f := fun i e => e.dropRange i .forced) fun i => (dropRange_requests i d .forced).undisturbed
  | captureOffset t i x y => exact onBound_tended hroom t 0x2C i fun _ => .aside rfl
  | cancelCapture t i =>
    exact onBound_tended hroom t 0x2D i (f := cancelCaptureAt) fun i => .ite (.ite (.aside rfl) (.aside rfl)) (.aside rfl)
  | readCounters t g c => exact .ite (fun _ => .reply hroom) fun _ => startRead_tended _ d
  | readAdmission t a b => exact tableRead_tended hroom _ _ _ _ _
  | readProfile t a b => exact tableRead_tended hroom _ _ _ _ _
  | readCurve t a b => exact tableRead_tended hroom _ _ _ _ _
  | readSlot t a b p => exact .ite (fun _ => .reply hroom) fun _ => tableRead_tended hroom _ _ _ _ _
  | readStroke t a b p => exact .ite (fun _ => .reply hroom) fun _ => tableRead_tended hroom _ _ _ _ _
  | readZone t s a b =>
    exact .ite (fun _ => .reply hroom) fun _ => .ite (fun _ => .reply hroom) fun _ => startRead_tended _ d
  | writeOpenArea t r => exact writeStaging_tended hroom _ _ _
  | writeZoneRect t z a b c e =>
    show d.Tended (runWriteZoneRect t z a b c e d)
    unfold runWriteZoneRect
    split
    · exact .reply hroom
    · exact writeStaging_tended hroom _ _ _
  | writeZoneAttributes t z e r =>
    show d.Tended (runWriteZoneAttributes t z e r d)
    unfold runWriteZoneAttributes
    split
    · exact .reply hroom
    · exact writeStaging_tended hroom _ _ _
  | writeSlotParameters t i p a =>
    show d.Tended (runWriteSlotParameters t i p a d)
    unfold runWriteSlotParameters
    split <;> exact .answer hroom (by rfl)
  | setOffset t i x y =>
    show d.Tended (runSetOffset t i x y d)
    unfold runSetOffset
    split <;> exact .answer hroom (by rfl)
  | writeAdmission t i e m k a p =>
    show d.Tended (runWriteAdmission t i e m k a p d)
    unfold runWriteAdmission
    split <;> exact .answer hroom (by rfl)
  | setLevel t k l =>
    show d.Tended (runSetLevel t k l d)
    unfold runSetLevel
    split <;> exact .answer hroom (by rfl)
  | setLineThreshold t l => exact .ite (fun _ => .reply hroom) fun _ => .answer hroom (by rfl)
  | apply t =>
    exact .ite (fun _ => .reply hroom) fun _ => .ite (fun _ => .reply hroom) fun _ =>
      .answer hroom (by rfl)
  | writeIdentity t c b => exact .ite (fun _ => .reply hroom) fun _ => .answer hroom (by rfl)
  | hardReset | linkValidFalls | linkValidRises | millisecondTick | sample | proximity | commandCell | invalidCell | presenceExpiry
    | liftHoldExpiry | pacerExpiry | noticePulseEnd | overlayTxBegin | overlayTxComplete | shareEgressBegin | replyTxComplete
    | frameTxComplete | rangeReadNextItem => exact .refl d
  | _ => exact .answer hroom (by rfl)

end

namespace Device

variable {d e : Device}

/-! ## The taking of commands -/

/-- No command waits that could be taken (R154). -/
def Settled (d : Device) : Prop := d.responder.queue ≠ [] → d.responder.reading ≠ none ∨ 4 ≤ d.arbiter.replies.length

theorem queuesSound_iff : d.QueuesSound ↔ d.responder.queue.length ≤ 8 ∧ d.arbiter.Bounded ∧ d.Settled := by
  unfold QueuesSound EgressArbiter.Bounded Settled
  rw [and_assoc]

theorem settled_of_not_mayTake (h : d.mayTake = false) : d.Settled := fun _ => by
  by_contra hnot
  rw [not_or, not_ne_iff, Nat.not_le] at hnot
  rw [(mayTake_iff d).mpr hnot] at h
  cases h

/-- An execution adds no waiting command. -/
theorem runCommand_queue_le (i : Instr) (d : Device) : (runCommand i d).responder.queue.length ≤ d.responder.queue.length := by
  by_cases hi : ∃ t, i = .restart t
  · obtain ⟨t, rfl⟩ := hi
    rw [show (runCommand (.restart t) d).responder.queue = [] from runRestart_waiting t d]
    exact Nat.zero_le _
  · exact (congrArg List.length (runCommand_waiting (fun t ht => hi ⟨t, ht⟩) d)).le

theorem takeCommands_tended (n : Nat) (d : Device) : d.Tended (takeCommands n d) := by
  induction n generalizing d with
  | zero => exact .refl d
  | succ n ih =>
    unfold takeCommands
    split
    · exact .refl d
    · next c rest _ =>
      refine .ite (fun hm => ?_) fun _ => .refl d
      have hrun := runCommand_tended (d := d.withQueue rest) ((mayTake_iff d).mp hm).2 (decodeCommand c)
      exact .trans (.responder _ d) (hrun.trans (ih _))

/-- Commands are taken until none waits or none may be taken. -/
theorem takeCommands_settled {n : Nat} (h : d.responder.queue.length ≤ n) :
    (takeCommands n d).Settled ∧ (takeCommands n d).responder.queue.length ≤ d.responder.queue.length := by
  induction n generalizing d with
  | zero => exact ⟨fun k => absurd (List.eq_nil_of_length_eq_zero (Nat.le_zero.mp h)) k, le_rfl⟩
  | succ n ih =>
    unfold takeCommands
    split
    · next hq => exact ⟨fun k => absurd hq k, le_rfl⟩
    · next c rest hq =>
      rw [hq, List.length_cons] at h
      split
      · have hle : (runCommand (decodeCommand c) (d.withQueue rest)).responder.queue.length ≤ rest.length := runCommand_queue_le _ _
        obtain ⟨hsettled, hqueue⟩ := ih (hle.trans (Nat.le_of_succ_le_succ h))
        exact ⟨hsettled, (hqueue.trans hle).trans (by rw [hq]; exact Nat.le_succ _)⟩
      · next hm => exact ⟨settled_of_not_mayTake (Bool.not_eq_true _ ▸ hm), le_rfl⟩

/-! ## What a step keeps -/

/-- From `d` to `e` the bounds of the queues and of the frame buffers are kept. -/
def QueuesKept (d e : Device) : Prop := (d.QueuesSound → e.QueuesSound) ∧ (d.FramesSound → e.FramesSound)

theorem Tended.framesSound (h : d.Tended e) (k : d.FramesSound) : e.FramesSound := by
  obtain ⟨hframer, htransmission, -⟩ := h
  obtain ⟨hfiled, hsending⟩ := framesSound_iff.mp k
  obtain ⟨hfiled', hsame⟩ := hframer hfiled
  refine framesSound_iff.mpr ⟨hfiled', fun b => ?_⟩
  rw [hsame b, hsending b]
  unfold EgressArbiter.sendsFrame
  rw [htransmission]

/-- Replies formed and frames built, and no command left that could be taken. -/
theorem Tended.queuesKept (h : d.Tended e) (hq : e.responder.queue.length ≤ d.responder.queue.length) (hs : d.QueuesSound → e.Settled) :
    d.QueuesKept e := by
  refine ⟨fun k => ?_, h.framesSound⟩
  obtain ⟨hlength, hbounded, -⟩ := queuesSound_iff.mp k
  exact queuesSound_iff.mpr ⟨hq.trans hlength, h.2.2 hbounded, hs k⟩

theorem Undisturbed.queuesKept (h : d.Undisturbed e) : d.QueuesKept e := by
  have ⟨_, ha, hr⟩ := h
  exact ⟨by unfold QueuesSound; rw [ha, hr]; exact id, h.tended.framesSound⟩

theorem commandArrives_queuesKept (c : Command) (d : Device) : d.QueuesKept (d.commandArrives c) := by
  by_cases hl : d.responder.queue.length < 8
  · rw [commandArrives_of_room hl]
    have htended := takeCommands_tended (d.responder.queue ++ [c]).length (d.withQueue (d.responder.queue ++ [c]))
    obtain ⟨hsettled, hle⟩ := takeCommands_settled (d := d.withQueue (d.responder.queue ++ [c])) le_rfl
    refine ⟨fun k => ?_, ((Tended.responder _ d).trans htended).framesSound⟩
    obtain ⟨-, hbounded, -⟩ := queuesSound_iff.mp k
    refine queuesSound_iff.mpr ⟨hle.trans ?_, htended.2.2 hbounded, hsettled⟩
    show (d.responder.queue ++ [c]).length ≤ 8
    rwa [List.length_append, List.length_singleton]
  · rw [commandArrives_of_overrun (Nat.not_lt.mp hl)]
    exact ⟨id, id⟩

theorem commandStep_queuesKept (i j : Instr) (d : Device) : d.QueuesKept (d.commandStep i (runCommand j)) := by
  unfold commandStep
  split
  · next hready =>
    obtain ⟨hm, hempty⟩ := Bool.and_eq_true_iff.mp hready
    have hle := runCommand_queue_le j d
    refine (runCommand_tended ((mayTake_iff d).mp hm).2 j).queuesKept hle fun _ hne => ?_
    rw [List.isEmpty_iff.mp hempty] at hle
    exact absurd (List.eq_nil_of_length_eq_zero (Nat.le_zero.mp hle)) hne
  · split
    · exact commandArrives_queuesKept _ d
    · exact ⟨id, id⟩

theorem cellArrives_queuesKept (cell : Cell) (d : Device) : d.QueuesKept (d.cellArrives cell) := by
  unfold cellArrives
  split
  · exact ⟨id, id⟩
  · split
    · exact ((checkSequence_undisturbed _ _ d).trans (penSample_undisturbed _ _ _)).queuesKept
    · exact ((checkSequence_undisturbed _ _ d).trans (penProximity_undisturbed _ _ _ _ _)).queuesKept
    · exact commandArrives_queuesKept _ d
    · exact Undisturbed.queuesKept (.aside rfl)

/-! ## The egress links -/

/-- The taking test, once a reply has left or an item of a read has been formed. -/
theorem takingTest_queuesSound (hq : d.responder.queue.length ≤ 8) (hb : d.arbiter.Bounded) : d.takingTest.QueuesSound := by
  obtain ⟨hsettled, hle⟩ := takeCommands_settled (d := d) le_rfl
  exact queuesSound_iff.mpr ⟨hle.trans hq, (takeCommands_tended _ d).2.2 hb, hsettled⟩

theorem replyCompletes_queuesKept (d : Device) : d.QueuesKept d.replyCompletes := by
  unfold replyCompletes
  split
  · next b hb =>
    refine ⟨fun k => ?_, fun k => (takeCommands_tended _ _).framesSound ?_⟩
    · obtain ⟨hlength, ⟨hreplies, -⟩, -⟩ := queuesSound_iff.mp k
      exact takingTest_queuesSound hlength ⟨(List.drop_sublist 1 _).length_le.trans hreplies, rfl⟩
    · obtain ⟨hfiled, hsending⟩ := framesSound_iff.mp k
      refine framesSound_iff.mpr ⟨hfiled, fun c => (hsending c).trans ?_⟩
      simp only [EgressArbiter.sendsFrame, hb]
  · exact ⟨id, id⟩

theorem nextItem_queuesKept (d : Device) : d.QueuesKept d.nextItem.takingTest := by
  have hqueue : d.nextItem.responder.queue = d.responder.queue := by
    unfold nextItem
    split
    · rfl
    · split
      · exact readItem_waiting _ d
      · rfl
  refine ⟨fun k => ?_, ((nextItem_tended d).trans (takeCommands_tended _ _)).framesSound⟩
  obtain ⟨hlength, hbounded, -⟩ := queuesSound_iff.mp k
  exact takingTest_queuesSound (hqueue ▸ hlength) ((nextItem_tended d).2.2 hbounded)

/-- The frame that begins is the one filed first, and its buffer becomes SENDING (R137, R148). -/
theorem frameBegins_framesSound (hidle : d.arbiter.inTransmission = none) (h : d.FramesSound) : d.frameBegins.FramesSound := by
  unfold frameBegins
  split
  · exact h
  · next b rest ho =>
    obtain ⟨hfiled, hsending⟩ := framesSound_iff.mp h
    have hheld : (d.framer.buffers[b]).isHeld = true := (hfiled.2 b).mpr (ho ▸ List.mem_cons_self)
    have hbegun : ∀ x : FrameBuffer, x.isHeld = true → x.begun.isHeld = false ∧ x.begun.isSending = true := fun x hx => by
      cases x with
      | held f => exact ⟨rfl, rfl⟩
      | empty | sending f => cases hx
    obtain ⟨hunheld, hsent⟩ := hbegun _ hheld
    refine framesSound_iff.mpr ⟨hfiled.unfile ho hunheld rfl rfl, fun c => ?_⟩
    by_cases hc : c = b
    · subst hc
      rw [ShareFramer.set_same, hsent]
      simp [EgressArbiter.sendsFrame]
    · rw [ShareFramer.set_other _ _ hc, hsending c]
      simp [EgressArbiter.sendsFrame, hidle, Ne.symm hc]

theorem frameBegins_queuesSound (h : d.QueuesSound) : d.frameBegins.QueuesSound := by
  unfold frameBegins
  split
  · exact h
  · obtain ⟨hlength, hreplies, -, hsettled⟩ := h
    exact ⟨hlength, hreplies, rfl, hsettled⟩

theorem egressBegins_queuesKept (ready : Bool) (d : Device) : d.QueuesKept (d.egressBegins ready) := by
  unfold egressBegins
  split
  · next hidle =>
    split
    · next r rest hr =>
      refine ⟨fun ⟨hlength, hreplies, _, hsettled⟩ => ⟨hlength, hreplies, ?_, hsettled⟩, fun k => ?_⟩
      · simp [EgressArbiter.sendsHead, hr]
      · obtain ⟨hfiled, hsending⟩ := framesSound_iff.mp k
        refine framesSound_iff.mpr ⟨hfiled, fun c => (hsending c).trans ?_⟩
        simp only [EgressArbiter.sendsFrame, hidle]
    · exact ⟨frameBegins_queuesSound, frameBegins_framesSound hidle⟩
  · exact ⟨id, id⟩

/-- The buffer of the frame that has gone out is EMPTY, and nothing is in transmission (R137, R148). -/
theorem freed_queuesKept {b : Fin 2} {x : List Byte} (h : d.arbiter.inTransmission = some (.frame b x)) : d.QueuesKept (d.freed b) := by
  refine ⟨fun ⟨hlength, hreplies, _, hsettled⟩ => ⟨hlength, hreplies, rfl, hsettled⟩, fun k => ?_⟩
  obtain ⟨hfiled, hsending⟩ := framesSound_iff.mp k
  have hsent : (d.framer.buffers[b]).isSending = true := by
    rw [hsending b]
    simp [EgressArbiter.sendsFrame, h]
  have hunheld : ∀ y : FrameBuffer, y.isSending = true → y.isHeld = false := fun y hy => by
    cases y with
    | sending f => rfl
    | empty | held f => cases hy
  refine framesSound_iff.mpr ⟨hfiled.set (b := b) (hunheld _ hsent) rfl rfl rfl, fun c => ?_⟩
  show ((d.framer.buffers.set b .empty)[c]).isSending = false
  by_cases hc : c = b
  · subst hc
    rw [ShareFramer.set_same]
    rfl
  · rw [ShareFramer.set_other _ _ hc, hsending c]
    simp [EgressArbiter.sendsFrame, h, Ne.symm hc]

theorem QueuesKept.trans {f : Device} (h : d.QueuesKept e) (k : e.QueuesKept f) : d.QueuesKept f := ⟨k.1 ∘ h.1, k.2 ∘ h.2⟩

theorem frameCompletes_queuesKept (d : Device) : d.QueuesKept d.frameCompletes := by
  unfold frameCompletes
  split
  · next b x h => exact (freed_queuesKept h).trans (takeFreedBuffer_undisturbed (d.freed b)).queuesKept
  · exact ⟨id, id⟩

theorem hardResetDevice_queuesKept (v : Bool) (d : Device) : d.QueuesKept (hardResetDevice v) := by
  obtain ⟨-, -, hqueues, hframes, -⟩ := reset_sound
  rw [hardResetDevice_eq]
  exact ⟨fun _ => hqueues, fun _ => hframes⟩

theorem overlayBegins_undisturbed (ready : Bool) (d : Device) : d.Undisturbed (d.overlayBegins ready) := by
  unfold overlayBegins
  split <;> exact .aside rfl

end Device

/-! ## Every step -/

theorem queuesKept_of_onDevice {f : Device → Device} {s t : State} (he : s.onDevice f = .next t) (h : s.dev.QueuesKept (f s.dev)) :
    s.dev.QueuesKept t.dev := by
  cases he
  exact h

/-- An event of the links, lines and timers. -/
theorem exec_event_queuesKept {i : Instr} {s t : State} (h : encodeCommand i = none) (he : exec i s = .next t) :
    s.dev.QueuesKept t.dev := by
  cases i with
  | hardReset v => exact queuesKept_of_onDevice (f := fun _ => hardResetDevice v) he (hardResetDevice_queuesKept v s.dev)
  | linkValidFalls => exact queuesKept_of_onDevice he (linkFalls_undisturbed s.dev).queuesKept
  | linkValidRises => exact queuesKept_of_onDevice (f := linkRises) he (Undisturbed.queuesKept (.aside rfl))
  | millisecondTick => exact queuesKept_of_onDevice he (millisecond_undisturbed s.dev).queuesKept
  | sample cell => exact queuesKept_of_onDevice he (cellArrives_queuesKept cell s.dev)
  | proximity cell => exact queuesKept_of_onDevice he (cellArrives_queuesKept cell s.dev)
  | commandCell cell => exact queuesKept_of_onDevice he (cellArrives_queuesKept cell s.dev)
  | invalidCell cell => exact queuesKept_of_onDevice he (cellArrives_queuesKept cell s.dev)
  | presenceExpiry i => exact queuesKept_of_onDevice he (presenceExpires_undisturbed i s.dev).queuesKept
  | liftHoldExpiry i => exact queuesKept_of_onDevice he (liftHoldExpires_requests i s.dev).undisturbed.queuesKept
  | pacerExpiry => exact queuesKept_of_onDevice he (pacerExpires_undisturbed s.dev).queuesKept
  | noticePulseEnd =>
    exact queuesKept_of_onDevice (f := fun d => { d with notices := d.notices.pulseEnds }) he (Undisturbed.queuesKept (.aside rfl))
  | overlayTxBegin ready => exact queuesKept_of_onDevice he (overlayBegins_undisturbed ready s.dev).queuesKept
  | overlayTxComplete =>
    exact queuesKept_of_onDevice (f := overlayCompletes) he (Undisturbed.queuesKept (.ite (.aside rfl) (.aside rfl)))
  | shareEgressBegin ready => exact queuesKept_of_onDevice he (egressBegins_queuesKept ready s.dev)
  | replyTxComplete => exact queuesKept_of_onDevice he (replyCompletes_queuesKept s.dev)
  | frameTxComplete => exact queuesKept_of_onDevice he (frameCompletes_queuesKept s.dev)
  | rangeReadNextItem =>
    refine queuesKept_of_onDevice (f := fun d => if d.responder.reading.isSome then d.nextItem.takingTest else d) he ?_
    split
    · exact nextItem_queuesKept s.dev
    · exact ⟨id, id⟩
  | _ => cases h

theorem step_queuesKept {s t : State} (h : step s = .next t) : s.dev.QueuesKept t.dev := by
  unfold step at h
  split at h
  · cases h
    exact ⟨id, id⟩
  · next i rest _ =>
    cases hc : encodeCommand i with
    | none => exact exec_event_queuesKept (s := { s with pending := rest }) hc h
    | some c =>
      rw [exec_of_command hc] at h
      exact queuesKept_of_onDevice (s := { s with pending := rest }) h (commandStep_queuesKept i _ s.dev)

/-- Settles O53: the router's queues along the operations on the ink path, the command queue, the replies and the frame buffers by what each
step does to them. -/
theorem queuesStayWithinBounds : Obligations.QueuesStayWithinBounds := fun _ _ h =>
  ⟨(step_inkMoves h).routerSound, step_queuesKept h⟩

end Sys2Proof.Machine
end

section
/-! The overlay egress: the head record in its 16 bytes (R128, R181, Figure 11-4). -/

namespace Sys2Proof.Machine

open Device

/-! ## The bytes of a record -/

theorem overlayCell_length (r : InkRecord) : (overlayCell r).length = 16 := by cases r <;> rfl

theorem openTypeByte_eq (z : ZoneNo) : openTypeByte z = BitVec.ofNat 8 (64 + z.val) := by
  have hz : (BitVec.ofNat 5 z.val).toNat = z.val := ofNat_toNat_of_lt (by omega)
  have htype : (0b010#3).toNat = 2 := rfl
  refine byte_eq_ofNat ?_
  rw [openTypeByte, toNat_append_add, hz, htype]
  omega

/-- Byte 3 of an OPEN: the slot, the end and CONTINUED. -/
theorem openOriginByte_eq (i : Slot) (w : PenEnd) (c : Bool) :
    (0#2 ++ BitVec.ofBool c ++ BitVec.ofNat 1 (penEndNo w) ++ BitVec.ofNat 4 i.val : Byte) =
      BitVec.ofNat 8 (i.val + bitNo (w = .eraser) 4 + bitNo c 5) := by
  have hi : (BitVec.ofNat 4 i.val).toNat = i.val := ofNat_toNat_of_lt (by omega)
  have hw : (BitVec.ofNat 1 (penEndNo w)).toNat = (decide (w = .eraser)).toNat := by cases w <;> rfl
  refine byte_eq_ofNat ?_
  simp only [toNat_append_add, toNat_ofBool_eq, bitNo_eq, BitVec.toNat_zero, hi, hw]
  omega

theorem closeFlagsByte_eq (f : CloseFlags) :
    closeFlagsByte f =
      BitVec.ofNat 8 (bitNo f.laneGap 0 + bitNo f.overlayGap 1 + bitNo f.shareTruncated 2 + bitNo f.coalesced 3) := by
  refine byte_eq_ofNat ?_
  simp only [closeFlagsByte, toNat_append_add, toNat_ofBool_eq, bitNo_eq, BitVec.toNat_zero]
  omega

/-! ## The egress -/

namespace Device

variable {d : Device}

theorem overlayBegins_of_head {r : InkRecord} {rest : List InkRecord} (hq : d.router.overlayQueue = r :: rest)
    (hidle : d.router.overlayTx = none) :
    d.overlayBegins true = { d with router := { d.router with overlayTx := some (overlayCell r) } } := by
  simp only [overlayBegins, hidle, hq]

theorem overlayCompletes_of_sent {r : InkRecord} {rest : List InkRecord} {sent : List Byte} (hq : d.router.overlayQueue = r :: rest)
    (hsent : d.router.overlayTx = some sent) :
    d.overlayCompletes = { d with router := { d.router with overlayTx := none, overlayQueue := rest } } := by
  simp only [overlayCompletes, hsent, hq, Option.isSome_some, if_true, List.drop_one, List.tail_cons]

end Device

/-- Settles O30: the beginning and the completion of a cell, and its bytes record by record. -/
theorem overlayEgressSendsHead : Obligations.OverlayEgressSendsHead := by
  intro s r rest sent o t c hi lo bit
  refine ⟨fun hq hidle => ?_, fun hq hsent => ?_, overlayCell_length r, ?_, rfl, ?_, rfl, rfl⟩
  · rw [Becomes, ← overlayBegins_of_head hq hidle]
    rfl
  · rw [Becomes, ← overlayCompletes_of_sent hq hsent]
    rfl
  · rw [overlayCell, openBytes, openTypeByte_eq, openOriginByte_eq, attributes_eq]
    rfl
  · rw [overlayCell, closeBytes, closeFlagsByte_eq]
    rfl

end Sys2Proof.Machine
end

section
/-! The records at the Segment Router: an OPEN with room for its CLOSE, a SEG refused, and a CLOSE on its reservation (R118 to R125,
R140). -/

namespace Sys2Proof.Machine

open Device

/-! ## An OPEN -/

theorem toOverlay_iff (st : Steering) : toOverlay st = true ↔ st = .localInk ∨ st = .both := by cases st <;> decide

theorem toShare_iff (st : Steering) : toShare st = true ↔ st = .shareInk ∨ st = .both := by cases st <;> decide

theorem Router.overlayAdmits_iff (r : Router) (n : Nat) :
    r.overlayAdmits n = true ↔ r.overlayQueue.length + r.overlayReservations + n ≤ 48 := decide_eq_true_iff

theorem Router.shareAdmits_iff (r : Router) (n : Nat) :
    r.shareAdmits n = true ↔ r.shareQueue.length + r.shareReservations + n ≤ 64 := decide_eq_true_iff

/-- An OPEN at the router, entered in a queue, refused there, or not asked for (R119, R120, R122, R125). -/
def Device.openRouted (o : OpenRecord) (overlayIn overlayRefused shareIn shareRefused : Bool) (d : Device) : Device :=
  let r := d.router
  let v : Delivery :=
    { id := o.id, slot := o.slot, overlayLive := overlayIn, overlaySuppressed := overlayRefused, overlayGap := false, coalesced := false,
      shareLive := shareIn, shareTruncated := shareRefused, overlayReserved := overlayIn, shareReserved := shareIn }
  let n := if overlayRefused then d.notices.post .overlayStall (slotSubject o.slot) else d.notices
  { d with
    router :=
      { r with
        deliveries := r.deliveries ++ [v]
        overlayQueue := if overlayIn then r.overlayQueue ++ [.openRec o] else r.overlayQueue
        shareQueue := if shareIn then r.shareQueue ++ [.openRec o] else r.shareQueue
        suppressedStrokes := if overlayRefused then satInc r.suppressedStrokes else r.suppressedStrokes
        truncatedStrokes := if shareRefused then satInc r.truncatedStrokes else r.truncatedStrokes }
    notices := if shareRefused then n.post .shareOverflow (slotSubject o.slot) else n }

/-- Each side is decided on its own, and an OPEN that enters the share queue makes the six-record test (R140). -/
theorem Device.routeOpen_eq {o : OpenRecord} {st : Steering} {d : Device} {oi orf si srf : Bool}
    (hoi : (toOverlay st && d.router.overlayAdmits 2) = oi) (horf : (toOverlay st && !oi) = orf)
    (hsi : (toShare st && decide (o.role ≠ .guest) && decide (d.framer.state = .enabled) && d.router.shareAdmits 2) = si)
    (hsrf : (toShare st && decide (o.role ≠ .guest) && decide (d.framer.state = .enabled) && !si) = srf) :
    d.routeOpen o st =
      if si then (d.openRouted o oi orf si srf).sixRecordTrigger else d.openRouted o oi orf si srf := by
  unfold routeOpen
  simp only [hoi, horf, hsi, hsrf]
  cases orf <;> cases srf <;> rfl

/-- What is asked for and does not enter is refused. -/
theorem decide_and_not_and (p q : Prop) [Decidable p] [Decidable q] : (decide p && !decide (p ∧ q)) = decide (p ∧ ¬q) := by
  by_cases hp : p <;> simp [hp]

/-- Settles O27: the two sides' conditions decided, and the trigger's effect. -/
theorem openIsAdmittedWithRoomForItsClose : Obligations.OpenIsAdmittedWithRoomForItsClose := by
  intro d o st r e overlay share overlayRoom shareRoom v n m
  have hoverlay : toOverlay st = decide overlay := Bool.eq_iff_iff.mpr ((toOverlay_iff st).trans decide_eq_true_iff.symm)
  have hshare : (toShare st && decide (o.role ≠ .guest) && decide (d.framer.state = .enabled)) = decide share := by
    rw [Bool.eq_iff_iff, decide_eq_true_iff, Bool.and_eq_true, Bool.and_eq_true, decide_eq_true_iff, decide_eq_true_iff, toShare_iff,
      and_assoc]
  have hoverlayRoom : r.overlayAdmits 2 = decide overlayRoom := rfl
  have hshareRoom : r.shareAdmits 2 = decide shareRoom := rfl
  have hopen : e = if decide (share ∧ shareRoom) then m.sixRecordTrigger else m := by
    have hm : m = d.openRouted o (decide (overlay ∧ overlayRoom)) (decide (overlay ∧ ¬overlayRoom)) (decide (share ∧ shareRoom))
        (decide (share ∧ ¬shareRoom)) := by
      simp only [openRouted, decide_eq_true_eq]
      rfl
    rw [hm]
    refine routeOpen_eq ?_ ?_ ?_ ?_
    · rw [hoverlay, hoverlayRoom]
      exact (Bool.decide_and ..).symm
    · rw [hoverlay, decide_and_not_and]
    · rw [hshare, hshareRoom]
      exact (Bool.decide_and ..).symm
    · rw [hshare, decide_and_not_and]
  rw [hopen]
  by_cases hin : share ∧ shareRoom
  · rw [if_pos hin, if_pos (decide_eq_true hin)]
    exact sixRecordTrigger_filled m
  · rw [if_neg hin, if_neg (mt of_decide_eq_true hin)]

/-! ## A SEG -/

section

variable {r : Router} {s : SegRecord} {a b : List InkRecord}

theorem Router.offerOverlaySeg_of_room (h : r.overlayQueue.length + r.overlayReservations + 1 ≤ 48) :
    r.offerOverlaySeg s = { r with overlayQueue := r.overlayQueue ++ [.segRec s] } := if_pos (decide_eq_true h)

theorem Router.offerOverlaySeg_of_merge {q : List InkRecord} (h : ¬r.overlayQueue.length + r.overlayReservations + 1 ≤ 48)
    (hq : coalesceQueued r.overlayTx.isSome s r.overlayQueue = some q) :
    r.offerOverlaySeg s =
      Router.mapDelivery s.id (fun v => { v with coalesced := true })
        { r with overlayQueue := q, coalescedSegs := satInc r.coalescedSegs } := by
  unfold offerOverlaySeg
  rw [if_neg (mt (r.overlayAdmits_iff 1).mp h), hq]

theorem Router.offerOverlaySeg_of_drop (h : ¬r.overlayQueue.length + r.overlayReservations + 1 ≤ 48)
    (hq : coalesceQueued r.overlayTx.isSome s r.overlayQueue = none) :
    r.offerOverlaySeg s =
      Router.mapDelivery s.id (fun v => { v with overlayGap := true }) { r with droppedSegs := satInc r.droppedSegs } := by
  unfold offerOverlaySeg
  rw [if_neg (mt (r.overlayAdmits_iff 1).mp h), hq]

/-- A head in transmission stands aside (R123, R128). -/
theorem coalesceQueued_sent (x : InkRecord) (q : List InkRecord) :
    coalesceQueued true s (x :: q) = (coalesceNewest s q).map (x :: ·) := rfl

theorem coalesceQueued_idle (q : List InkRecord) : coalesceQueued false s q = coalesceNewest s q := by
  cases q <;> rfl

/-- Where nothing takes the SEG up among the records that are not in transmission, nothing does. -/
theorem Router.coalesceQueued_eq_none (h : coalesceNewest s (if r.overlayTx = none then r.overlayQueue else r.overlayQueue.drop 1) = none) :
    coalesceQueued r.overlayTx.isSome s r.overlayQueue = none := by
  cases ht : r.overlayTx with
  | none =>
    rw [if_pos ht] at h
    exact (coalesceQueued_idle _).trans h
  | some x =>
    rw [if_neg (by rw [ht]; exact nofun)] at h
    cases hq : r.overlayQueue with
    | nil => rfl
    | cons y rest =>
      rw [hq, List.drop_one, List.tail_cons] at h
      exact (coalesceQueued_sent y rest).trans (congrArg (Option.map (y :: ·)) h)

/-- The newest record of the id takes the SEG up where it is a SEG that is not in transmission. -/
theorem Router.coalesceQueued_of_newest {t : SegRecord} (hq : r.overlayQueue = a ++ .segRec t :: b) (ht : t.id = s.id)
    (hsent : r.overlayTx = none ∨ a ≠ []) (hb : ∀ x ∈ b, x.id ≠ s.id) :
    coalesceQueued r.overlayTx.isSome s r.overlayQueue =
      some (a ++ .segRec { t with toX := s.toX, toY := s.toY, width := s.width, time := s.time } :: b) := by
  have hnewest (c : List InkRecord) : coalesceNewest s (c ++ .segRec t :: b) = _ := coalesceNewest_append c (x := .segRec t) ht hb
  rw [hq]
  cases htx : r.overlayTx with
  | none => exact (coalesceQueued_idle _).trans (hnewest a)
  | some x =>
    cases a with
    | nil => exact absurd rfl (hsent.resolve_left (by rw [htx]; exact nofun))
    | cons y a => exact (coalesceQueued_sent y _).trans (congrArg (Option.map (y :: ·)) (hnewest a))

end

/-- Settles O28: on the overlay by what the newest waiting record of the id is, on the share path by the room. -/
theorem refusedSegIsMergedOrDropped : Obligations.RefusedSegIsMergedOrDropped := by
  intro d i s t a b r marked room waiting dropped
  refine ⟨Router.offerOverlaySeg_of_room, fun hr hq ht hsent hb => ?_, fun hr hw => ?_, fun x hr hw hx hseg hb => ?_, fun hr => ?_,
    fun hr => ?_⟩
  · exact Router.offerOverlaySeg_of_merge hr (Router.coalesceQueued_of_newest hq ht hsent hb)
  · exact Router.offerOverlaySeg_of_drop hr (Router.coalesceQueued_eq_none (coalesceNewest_of_absent hw))
  · refine Router.offerOverlaySeg_of_drop hr (Router.coalesceQueued_eq_none ?_)
    show coalesceNewest s waiting = none
    rw [hw, coalesceNewest_append a hx hb]
    cases x with
    | segRec y => exact absurd rfl (hseg y)
    | openRec y | closeRec y => rfl
  · have hin : d.offerShareSeg i s = _ := if_pos (decide_eq_true hr)
    rw [hin]
    exact sixRecordTrigger_filled _
  · exact if_neg (mt of_decide_eq_true hr)

/-! ## A CLOSE -/

/-- Settles O29: the copies enter as the router enters them, and the record that ends owed just the places that they take. -/
theorem closeEntersOnItsReservation : Obligations.CloseEntersOnItsReservation := by
  intro d id count reason gap time v r e overlayCopy shareCopy m hv
  have hclose : e = if v.shareLive then m.sixRecordTrigger else m := by
    show d.routeClose id count reason gap time = _
    unfold routeClose
    simp only [show d.router.delivery id = some v from hv]
    rfl
  refine ⟨?_, fun hsound hone => ⟨?_, routeClose_routerSound hsound id count reason gap time⟩⟩
  · rw [hclose]
    split
    · exact sixRecordTrigger_filled m
    · rfl
  · have hkept : e.router.overlayQueue = m.router.overlayQueue ∧ e.router.overlayReservations = m.router.overlayReservations := by
      rw [hclose]
      split
      · rw [(sixRecordTrigger_framed m).1]
        exact ⟨rfl, rfl⟩
      · exact ⟨rfl, rfl⟩
    obtain ⟨hmem, hid⟩ := Router.mem_of_delivery hv
    obtain ⟨hreserved, -, -⟩ := hsound
    have hended := Router.countP_ended hone hmem (·.overlayReserved)
    rw [(hreserved v hmem).1, hid] at hended
    rw [hkept.1, hkept.2, Router.length_ite_append, Router.overlayReservations, Router.overlayReservations, ← hended]
    dsimp only [m]
    omega

end Sys2Proof.Machine
end

section
/-! The SHARE_OFF closes of a share disable (R127): what they enter in the share queue, slot by slot, and what they leave of the delivery
records. -/

namespace Sys2Proof.Machine

open Device

/-- A delivery record whose stroke has stopped being share-live. -/
def Delivery.unshared (v : Delivery) : Delivery := { v with shareLive := false, shareReserved := false }

/-- A delivery record after the closes of the slots `l`. -/
def Device.leftBy (d : Device) (l : List Slot) (v : Delivery) : Delivery := if ∃ i ∈ l, (d.context i).id = v.id then v.unshared else v

/-- The SHARE_OFF close of slot `i`'s stroke (R127). -/
def Device.shareOffRecord (d : Device) (i : Slot) : ShareRecord :=
  let k := d.context i
  .closeRec
    ⟨k.id, k.count, .shareOff, ⟨k.laneGap, false, (d.router.delivery k.id).any (·.shareTruncated), false⟩, d.clock.setWidth 16⟩

/-- The closes of the slots `l`, all share-live: their records in the share queue, and no share reservation left to them. -/
def Device.sharedOff (l : List Slot) (d : Device) : Device :=
  { d with
    router :=
      { d.router with
        shareQueue := d.router.shareQueue ++ l.map d.shareOffRecord
        deliveries := d.router.deliveries.map (d.leftBy l) } }

namespace Device

variable {d : Device} {i j : Slot} {l : List Slot}

theorem leftBy_id (v : Delivery) : (d.leftBy l v).id = v.id := by
  unfold leftBy
  split <;> rfl

/-- The delivery record of an id afterwards is the one before, as the closes have left it. -/
theorem sharedOff_delivery (id : Word16) : (d.sharedOff l).router.delivery id = (d.router.delivery id).map (d.leftBy l) := by
  have hid : ((fun v : Delivery => decide (v.id = id)) ∘ d.leftBy l) = fun v => decide (v.id = id) :=
    funext fun v => congrArg (fun x => decide (x = id)) (leftBy_id v)
  refine List.find?_map.trans ?_
  rw [hid]
  rfl

theorem leftBy_singleton : d.leftBy [i] = fun v => if v.id = (d.context i).id then v.unshared else v :=
  funext fun v => if_congr (by simp only [List.mem_singleton, exists_eq_left, eq_comm (a := v.id)]) rfl rfl

theorem sharedOff_nil : d.sharedOff [] = d := by
  have hleft : d.leftBy [] = id := funext fun v => if_neg (by simp)
  unfold sharedOff
  rw [hleft, List.map_id, List.map_nil, List.append_nil]

theorem delivery_of_shareLiveAt (h : d.shareLiveAt i = true) :
    (d.context i).isOpen = true ∧ ∃ v, d.router.delivery (d.context i).id = some v ∧ v.shareLive = true := by
  obtain ⟨hopen, hlive⟩ := Bool.and_eq_true_iff.mp h
  refine ⟨hopen, ?_⟩
  cases hv : d.router.delivery (d.context i).id with
  | none => simp [hv] at hlive
  | some v => exact ⟨v, rfl, by rwa [hv] at hlive⟩

theorem shareOffClose_of_live (h : d.shareLiveAt i = true) : d.shareOffClose i = d.sharedOff [i] := by
  obtain ⟨hopen, v, hv, hl⟩ := delivery_of_shareLiveAt h
  have hrecord : d.shareOffRecord i =
      .closeRec ⟨(d.context i).id, (d.context i).count, .shareOff, shareCloseFlags (d.context i).laneGap v, d.clock.setWidth 16⟩ := by
    simp only [shareOffRecord, hv]
    rfl
  unfold shareOffClose sharedOff
  simp only [hv, hopen, hl, leftBy_singleton, List.map_cons, List.map_nil, hrecord]
  rfl

theorem shareOffClose_of_not_live (h : d.shareLiveAt i = false) : d.shareOffClose i = d := by
  unfold shareOffClose
  extract_lets k
  split
  · rfl
  · next v hv =>
    refine if_neg fun hl => ?_
    simp only [shareLiveAt, k] at h hv
    rw [hv] at h
    exact Bool.false_ne_true (h.symm.trans hl)

/-- With ids distinct, a close touches no other open stroke's delivery record. -/
theorem sharedOff_delivery_other (h : d.IdsSound) (hi : (d.context i).isOpen = true) (hj : (d.context j).isOpen = true) (hij : j ≠ i) :
    (d.sharedOff [i]).router.delivery (d.context j).id = d.router.delivery (d.context j).id := by
  obtain ⟨-, -, hdistinct⟩ := h
  rw [sharedOff_delivery]
  cases hv : d.router.delivery (d.context j).id with
  | none => rfl
  | some v =>
    refine congrArg some (if_neg ?_)
    rintro ⟨k, hk, hid⟩
    rw [List.mem_singleton.mp hk, (Router.mem_of_delivery hv).2] at hid
    exact hij (hdistinct j i hj hi hid.symm)

/-- So no other slot's stroke starts or stops being share-live, and its close is the same. -/
theorem sharedOff_other (h : d.IdsSound) (hi : d.shareLiveAt i = true) (hij : j ≠ i) :
    (d.sharedOff [i]).shareLiveAt j = d.shareLiveAt j ∧
      (d.shareLiveAt j = true → (d.sharedOff [i]).shareOffRecord j = d.shareOffRecord j) := by
  obtain ⟨hopen, -⟩ := delivery_of_shareLiveAt hi
  have hcontext : (d.sharedOff [i]).context j = d.context j := rfl
  cases hj : (d.context j).isOpen with
  | false => simp [shareLiveAt, hcontext, hj]
  | true =>
    have hsame := sharedOff_delivery_other h hopen hj hij
    unfold shareLiveAt shareOffRecord
    simp only [hcontext, hsame]
    exact ⟨trivial, fun _ => rfl⟩

/-- Closes one after the other are those of all the slots. -/
theorem sharedOff_cons (hrecords : ∀ j ∈ l, (d.sharedOff [i]).shareOffRecord j = d.shareOffRecord j) :
    (d.sharedOff [i]).sharedOff l = d.sharedOff (i :: l) := by
  have hleft : (d.sharedOff [i]).leftBy l ∘ d.leftBy [i] = d.leftBy (i :: l) := funext fun v => by
    have hcontext : ∀ j, (d.sharedOff [i]).context j = d.context j := fun _ => rfl
    simp only [Function.comp_apply, leftBy, hcontext, List.mem_cons, List.not_mem_nil, or_false, exists_eq_or_imp, exists_eq_left]
    by_cases hi : (d.context i).id = v.id <;> by_cases hl : ∃ j ∈ l, (d.context j).id = v.id <;> simp [hi, hl, Delivery.unshared]
  have hqueue : (d.sharedOff [i]).router.shareQueue ++ l.map (d.sharedOff [i]).shareOffRecord =
      d.router.shareQueue ++ (i :: l).map d.shareOffRecord := by
    rw [List.map_congr_left hrecords]
    exact List.append_assoc ..
  have hdeliveries : (d.sharedOff [i]).router.deliveries.map ((d.sharedOff [i]).leftBy l) =
      d.router.deliveries.map (d.leftBy (i :: l)) := List.map_map.trans (congrArg (List.map · _) hleft)
  rw [sharedOff, hqueue, hdeliveries]
  rfl

/-- The closes of a share disable, in the order of the slots. -/
theorem shareOffCloses_eq (h : d.IdsSound) (hl : l.Nodup) : l.foldl shareOffClose d = d.sharedOff (l.filter d.shareLiveAt) := by
  induction l generalizing d with
  | nil => exact sharedOff_nil.symm
  | cons i l ih =>
    obtain ⟨hi, hl⟩ := List.nodup_cons.mp hl
    rw [List.foldl_cons]
    cases hlive : d.shareLiveAt i with
    | false => rw [shareOffClose_of_not_live hlive, ih h hl, List.filter_cons_of_neg (by simp [hlive])]
    | true =>
      have hne : ∀ j ∈ l, j ≠ i := fun j hj hji => hi (hji ▸ hj)
      have hfilter : l.filter (d.sharedOff [i]).shareLiveAt = l.filter d.shareLiveAt :=
        List.filter_congr fun j hj => (sharedOff_other h hlive (hne j hj)).1
      rw [shareOffClose_of_live hlive, ih (d := d.sharedOff [i]) h hl, hfilter, List.filter_cons_of_pos hlive]
      refine sharedOff_cons fun j hj => ?_
      obtain ⟨hj, hjlive⟩ := List.mem_filter.mp hj
      exact (sharedOff_other h hlive (hne j hj)).2 hjlive

end Device

end Sys2Proof.Machine
end

section
/-! The framing of DRAINING (R136): how many records its frames take, and when the draining ends at once. -/

namespace Sys2Proof.Machine

open Device

/-- How many frame buffers are EMPTY. -/
def ShareFramer.freeCount (f : ShareFramer) : Nat := (List.finRange 2).countP fun b => f.buffers[b] = .empty

namespace ShareFramer

variable {f g : ShareFramer}

theorem freeCount_eq (f : ShareFramer) :
    f.freeCount = (if f.buffers[(0 : Fin 2)] = .empty then 1 else 0) + (if f.buffers[(1 : Fin 2)] = .empty then 1 else 0) := by
  rw [freeCount, show List.finRange 2 = [0, 1] from rfl, List.countP_cons, List.countP_singleton, Nat.add_comm]
  simp only [decide_eq_true_eq]

theorem freeCount_le (f : ShareFramer) : f.freeCount ≤ 2 := List.countP_le_length

theorem freeCount_eq_two_iff : f.freeCount = 2 ↔ ∀ c : Fin 2, f.buffers[c] = .empty := by
  refine (List.countP_eq_length (l := List.finRange 2)).trans ?_
  simp only [List.mem_finRange, decide_eq_true_eq, true_imp_iff]

theorem freeCount_of_full (h : f.freeBuffer = none) : f.freeCount = 0 := by
  rw [freeBuffer_eq] at h
  rw [freeCount_eq]
  split at h
  · cases h
  · next h0 =>
    split at h
    · cases h
    · next h1 => rw [if_neg h0, if_neg h1]

/-- The buffer taken next is EMPTY. -/
theorem buffer_of_free {b : Fin 2} (h : f.freeBuffer = some b) : f.buffers[b] = .empty := by
  rw [freeBuffer_eq] at h
  split at h
  · next h0 =>
    cases h
    exact h0
  · split at h
    · next h1 =>
      cases h
      exact h1
    · cases h

/-- A buffer filled is one EMPTY buffer less. -/
theorem freeCount_of_filled {b : Fin 2} (hempty : f.buffers[b] = .empty) (hfilled : g.buffers[b] ≠ .empty)
    (hother : ∀ c : Fin 2, c ≠ b → g.buffers[c] = f.buffers[c]) : g.freeCount + 1 = f.freeCount := by
  rw [freeCount_eq, freeCount_eq]
  match b with
  | 0 => rw [if_neg hfilled, if_pos hempty, hother 1 (by decide)]; omega
  | 1 => rw [if_neg hfilled, if_pos hempty, hother 0 (by decide)]

end ShareFramer

namespace Device

variable {d : Device}

/-- A build takes six records, or what is left, and a buffer. -/
theorem buildFrame_takes {b : Fin 2} (h : d.framer.freeBuffer = some b) (hq : d.router.shareQueue ≠ []) :
    d.buildFrame.router.shareQueue = d.router.shareQueue.drop 6 ∧ d.buildFrame.framer.freeCount + 1 = d.framer.freeCount := by
  obtain ⟨hbuilt, -⟩ := buildFrame_builtOnly h hq
  have hfilled := hbuilt.buffer_ne
  obtain ⟨-, hother, -, hrouter, -⟩ := hbuilt
  exact ⟨by rw [hrouter], ShareFramer.freeCount_of_filled (ShareFramer.buffer_of_free h) hfilled hother⟩

/-- Builds of all that waits take six records for each EMPTY buffer, or what is left. -/
theorem buildWhile_shareQueue {n : Nat} (h : d.framer.freeCount ≤ n) :
    (buildWhile 1 n d).router.shareQueue = d.router.shareQueue.drop (6 * d.framer.freeCount) := by
  induction n generalizing d with
  | zero => rw [Nat.le_zero.mp h]; rfl
  | succ n ih =>
    by_cases hq : d.router.shareQueue = []
    · rw [buildWhile_stop (n + 1) (.inl (by simp [hq])), hq, List.drop_nil]
    · cases hf : d.framer.freeBuffer with
      | none => rw [buildWhile_stop (n + 1) (.inr hf), ShareFramer.freeCount_of_full hf]; rfl
      | some b =>
        obtain ⟨hqueue, hcount⟩ := buildFrame_takes hf hq
        rw [buildWhile_step n hf (Nat.le_refl 1) (List.length_pos_iff.mpr hq), ih (by omega), hqueue, List.drop_drop, ← hcount]
        congr 1
        omega

theorem buildFrame_of_full (h : d.framer.freeBuffer = none) : d.buildFrame = d := by
  simp only [buildFrame, h]

theorem buildFrame_freeCount_le (d : Device) : d.buildFrame.framer.freeCount ≤ d.framer.freeCount := by
  by_cases hq : d.router.shareQueue = []
  · rw [buildFrame_of_empty hq]
  · cases hf : d.framer.freeBuffer with
    | none => rw [buildFrame_of_full hf]
    | some b => exact (buildFrame_takes hf hq).2 ▸ Nat.le_succ _

theorem buildWhile_freeCount_le (n : Nat) (d : Device) : (buildWhile 1 n d).framer.freeCount ≤ d.framer.freeCount := by
  induction n generalizing d with
  | zero => exact Nat.le_refl _
  | succ n ih =>
    unfold buildWhile
    split
    · exact (ih _).trans (buildFrame_freeCount_le d)
    · exact Nat.le_refl _

/-- Builds with a record to frame leave a buffer in use. -/
theorem buildWhile_freeCount_lt (n : Nat) (hq : d.router.shareQueue ≠ []) : (buildWhile 1 (n + 1) d).framer.freeCount < 2 := by
  cases hf : d.framer.freeBuffer with
  | none =>
    rw [buildWhile_stop (n + 1) (.inr hf), ShareFramer.freeCount_of_full hf]
    decide
  | some b =>
    obtain ⟨-, hcount⟩ := buildFrame_takes hf hq
    have hle := buildWhile_freeCount_le n d.buildFrame
    have htwo := d.framer.freeCount_le
    rw [buildWhile_step n hf (Nat.le_refl 1) (List.length_pos_iff.mpr hq)]
    omega

theorem buildWhile_pendingFlush {n : Nat} (h : d.framer.pendingFlush = false) : (buildWhile 1 n d).framer.pendingFlush = false := by
  induction n generalizing d with
  | zero => exact h
  | succ n ih =>
    unfold buildWhile
    split
    · exact ih (buildFrame_pendingFlush h)
    · exact h

theorem drain_of_waiting (hwait : ¬(d.router.shareQueue = [] ∧ d.framer.freeCount = 2)) : d.drain = buildWhile 1 2 d := by
  have hused : (buildWhile 1 2 d).framer.freeCount ≠ 2 := by
    by_cases hq : d.router.shareQueue = []
    · rw [buildWhile_stop 2 (.inl (by simp [hq]))]
      exact fun h => hwait ⟨hq, h⟩
    · exact Nat.ne_of_lt (buildWhile_freeCount_lt 1 hq)
  obtain ⟨c, hc⟩ := not_forall.mp (mt ShareFramer.freeCount_eq_two_iff.mpr hused)
  exact endDraining_of_used hc

theorem drain_of_done (hs : d.framer.state = .draining) (hdone : d.router.shareQueue = [] ∧ d.framer.freeCount = 2) :
    d.drain = { d with framer := { d.framer with state := .disabled }, notices := d.notices.post .shareDrained none } :=
  (drain_of_empty hdone.1).trans (endDraining_of_done hs hdone.1 (ShareFramer.freeCount_eq_two_iff.mp hdone.2))

/-- A draining begun: the frames take what waits, the share state tells whether anything is left to send, and the pacer stays as it is. -/
theorem drain_begun (hs : d.framer.state = .draining) :
    d.drain.framer.state = (if d.router.shareQueue = [] ∧ d.framer.freeCount = 2 then .disabled else .draining) ∧
      d.drain.notices =
        (if d.router.shareQueue = [] ∧ d.framer.freeCount = 2 then d.notices.post .shareDrained none else d.notices) ∧
      d.drain.framer.timer = d.framer.timer ∧ d.drain.framer.cycle = d.framer.cycle ∧
      (d.framer.pendingFlush = false → d.drain.framer.pendingFlush = false) ∧
      d.drain.router = { d.router with shareQueue := d.router.shareQueue.drop (6 * d.framer.freeCount) } ∧ d.Routed d.drain := by
  by_cases hdone : d.router.shareQueue = [] ∧ d.framer.freeCount = 2
  · rw [if_pos hdone, if_pos hdone, drain_of_done hs hdone, hdone.1, List.drop_nil, ← hdone.1]
    exact ⟨rfl, rfl, rfl, rfl, id, rfl, rfl⟩
  · have hframed := buildWhile_framed 1 2 d
    have hqueue := buildWhile_shareQueue d.framer.freeCount_le
    rw [if_neg hdone, if_neg hdone, drain_of_waiting hdone]
    have hrouted := hframed.routed
    obtain ⟨hsame, hstate, htimer, hcycle, -⟩ := hframed
    refine ⟨hstate.trans hs, by rw [hsame], htimer, hcycle, buildWhile_pendingFlush, ?_, hrouted⟩
    rw [← hqueue]
    exact congrArg Device.router hsame

end Device

end Sys2Proof.Machine
end

section
/-! SHARE DISABLE (R127, R135 to R138). -/

namespace Sys2Proof.Machine

open Device

namespace Device

variable {d : Device}

/-- A device whose pacer stands and whose share state is DRAINING (R135, step 1). -/
def pacerOff (d : Device) : Device :=
  { d with framer := { d.framer with state := .draining, pendingFlush := false, cycle := 0, timer := none } }

theorem disableShare_eq (h : d.IdsSound) :
    d.disableShare = (d.pacerOff.sharedOff (allSlots.filter d.shareLiveAt)).drain :=
  congrArg drain (shareOffCloses_eq (d := d.pacerOff) h allSlots_nodup)

/-- No open stroke is share-live after the closes of those that were. -/
theorem sharedOff_unshared {i : Slot} (hopen : (d.context i).isOpen = true) :
    ((d.sharedOff (allSlots.filter d.shareLiveAt)).router.delivery (d.context i).id).any (·.shareLive) = false := by
  rw [sharedOff_delivery]
  cases hv : d.router.delivery (d.context i).id with
  | none => rfl
  | some v =>
    obtain ⟨-, hid⟩ := Router.mem_of_delivery hv
    show (d.leftBy _ v).shareLive = false
    cases hlive : v.shareLive with
    | true =>
      have hi : i ∈ allSlots.filter d.shareLiveAt :=
        List.mem_filter.mpr ⟨mem_allSlots i, by simp only [shareLiveAt, hopen, hv, Option.any_some, hlive, Bool.and_self]⟩
      rw [leftBy, if_pos ⟨i, hi, hid.symm⟩]
      rfl
    | false =>
      unfold leftBy
      split
      · rfl
      · exact hlive

theorem sharedOff_overlayReservations (l : List Slot) (d : Device) :
    (d.sharedOff l).router.overlayReservations = d.router.overlayReservations := by
  have hreserved : ((·.overlayReserved) ∘ d.leftBy l) = fun v => v.overlayReserved := funext fun v => by
    simp only [Function.comp_apply, leftBy]
    split <;> rfl
  exact List.countP_map.trans (congrArg (List.countP · d.router.deliveries) hreserved)

end Device

/-- Settles O43: in ENABLED by the closes of the share-live slots and the framing of what waits. -/
theorem shareDisableClosesShareStrokes : Obligations.ShareDisableClosesShareStrokes := by
  intro s tag f r live q free closed hr
  refine ⟨fun hoff => answers_of_run rfl hr ?_, fun hon hids => ?_⟩
  · show runShareDisable tag s.dev = _
    unfold runShareDisable
    split
    · next hs => exact absurd hs hoff
    · rfl
  · have hclosed : s.dev.disableShare = closed.drain := disableShare_eq hids
    have harbiter : closed.drain.arbiter = s.dev.arbiter := hclosed ▸ arbiter_of_beside disableShare_beside s.dev
    have hcount : s.dev.shareLiveCount = live.length := List.countP_eq_length_filter
    have hrun : runShareDisable tag s.dev =
        closed.drain.reply tag 0x52 .done [byteNat live.length, byteNat (shareNo closed.drain.framer.state)] := by
      rw [← hcount, ← hclosed, runShareDisable, show s.dev.framer.state = .enabled from hon]
    have hdone := becomes_of_ready (i := .shareDisable tag) rfl hr
    rw [show runCommand (executed (.shareDisable tag)) s.dev = _ from hrun] at hdone
    obtain ⟨hstate, hnotices, htimer, hcycle, hflush, hrouter, hrouted⟩ := drain_begun (d := closed) rfl
    refine ⟨_, hdone, ?_, (congrArg EgressArbiter.inTransmission harbiter :), hstate, hnotices, htimer, hcycle, hflush rfl,
      congrArg Router.shareQueue hrouter, fun i hi => ?_, (congrArg Router.overlayQueue hrouter :), ?_, ?_, ?_⟩
    · have hsame : { closed.drain with arbiter := s.dev.arbiter } = closed.drain := by rw [← harbiter]
      exact hsame.symm ▸ drain_drained (d := closed) rfl
    · show (closed.drain.router.delivery _).any _ = false
      rw [hrouter]
      exact sharedOff_unshared (d := s.dev) hi
    · show closed.drain.router.overlayReservations = _
      rw [hrouter]
      exact sharedOff_overlayReservations live s.dev
    · exact congrArg (·.replies ++ _) harbiter
    · rw [Device.reply, hrouted]

end Sys2Proof.Machine
end
